-- ==== Sys2Proof/Word.lean ====
section
/-! DEFINITION. The two word types of the block: a byte and a 16-bit register or address (spec/00_scope R5). -/

namespace Sys2Proof

/-- A byte, an opcode, an 8-bit register (R5). -/
abbrev Byte := BitVec 8

/-- A register pair, the stack pointer, the program counter, an address (R5). -/
abbrev Word := BitVec 16

end Sys2Proof
end

