-- ==== Sys2Proof/Config.lean ====
section
/-! DEFINITION. What a builder of the machine supplies (spec/00_scope R6): the scalar parameters, and the contents of the
memories at construction. None of them changes during a run. The values `State.reset` takes are in Machine/Defaults.lean. -/

namespace Sys2Proof

/-- The scalar parameters of R6. They are carried in State as constant data (log 21), so that a statement about every state
holds for every value of them. `OPCODE_MAP` is the table `opcodeMap` of Decode.lean. -/
structure Params where
  /-- `ROM_LEN`: how many bytes the cartridge image has. -/
  romLen : Nat
  /-- `WINDOW_BANK`: the ROM bank shown at 0x4000 to 0x7FFF (R48). -/
  windowBank : Nat
  /-- `RESET_PC` (10_state R33). -/
  resetPc : Word
  /-- `RESET_BC` (10_state R33). -/
  resetBc : Word
  /-- `RESET_DE` (10_state R33). -/
  resetDe : Word
  /-- `RESET_HL` (10_state R33). -/
  resetHl : Word
  /-- `CYC_PUSH` (42_load16_stack R121). -/
  cycPush : Nat
  /-- `CYC_POP` (42_load16_stack R122). -/
  cycPop : Nat
deriving DecidableEq, Repr

/-- A store of bytes: index and byte, indexes strictly rising, no entry equal to what an unlisted index reads as
(Machine/Memory.lean). -/
abbrev Memory := List Host.Cell

/-- The contents of the six stores at construction: `ROM`, `BOOT`, `INIT_VRAM`, `INIT_ERAM`, `INIT_WRAM`, `INIT_HRAM` (R6),
each indexed from 0 (10_state R28). -/
structure Images where
  rom : Memory
  boot : Memory
  vram : Memory
  eram : Memory
  wram : Memory
  hram : Memory
deriving DecidableEq, Repr

end Sys2Proof
end

