-- ==== Sys2Proof/Machine/Memory.lean ====
section
/-! DEFINITION. A store of bytes as sparse data in one canonical form, with its read and its write. The stores of the machine
are ROM, BOOT and the four RAM regions (spec/10_state R28). -/

namespace Sys2Proof

/-- What an index that the list does not hold reads as. DESIGN CHOICE (log 7): the spec leaves the contents of RAM, ROM and
BOOT open (D4, D5); a statement about every state ranges over every contents, listed ones included. -/
def Memory.unlisted : Byte := 0x00

/-- The byte at index `k`. -/
def Memory.read : Memory → Nat → Byte
  | [], _ => Memory.unlisted
  | (j, w) :: m, k => if j = k then w else Memory.read m k

/-- The store with `v` at index `k`, in canonical form. -/
def Memory.write : Memory → Nat → Byte → Memory
  | [], k, v => if v = Memory.unlisted then [] else [(k, v)]
  | (j, w) :: m, k, v =>
    if k < j then
      if v = Memory.unlisted then (j, w) :: m else (k, v) :: (j, w) :: m
    else if k = j then
      if v = Memory.unlisted then m else (k, v) :: m
    else (j, w) :: Memory.write m k v

/-- Every index is at least `lo`, the indexes rise strictly, all are below `hi`, and no entry equals what an unlisted index
reads as. -/
def Memory.canonicalFrom : Nat → Nat → Memory → Bool
  | _, _, [] => true
  | lo, hi, (k, v) :: m =>
    decide (lo ≤ k) && decide (k < hi) && decide (v ≠ Memory.unlisted) && Memory.canonicalFrom (k + 1) hi m

/-- The canonical form of a store of `size` bytes. -/
def Memory.wf (size : Nat) (m : Memory) : Bool := Memory.canonicalFrom 0 size m

end Sys2Proof
end

