-- ==== Sys2Proof/Machine/Defaults.lean ====
section
/-! DEFINITION. The values of the state right after reset (spec/10_state R33) and the defaults of the parameters
(00_scope R6). -/

namespace Sys2Proof

/-- `AF` at reset: A = 0x01, Z = 1, N = 0, H = 1, C = 1 (R33). -/
def resetAf : Word := 0x01B0

/-- `SP` at reset (R33). -/
def resetSp : Word := 0xFFFE

/-- The defaults of R6. `RESET_PC` is a DESIGN CHOICE between the two legal values (D2, log 5); `RESET_BC`, `RESET_DE`,
`RESET_HL` are PRESUMED from the family (D3, log 4); `CYC_PUSH` and `CYC_POP` are PRESUMED (D19, log 6); `WINDOW_BANK` is
the spec's own (D7, log 8); `ROM_LEN` is the least legal one (D6, log 22). -/
def defaultParams : Params :=
  { romLen := 0x4000, windowBank := 0, resetPc := 0x0100, resetBc := 0x0013, resetDe := 0x00D8, resetHl := 0x014D,
    cycPush := 4, cycPop := 3 }

/-- Nothing listed in any store (log 7). -/
def emptyImages : Images := { rom := [], boot := [], vram := [], eram := [], wram := [], hram := [] }

end Sys2Proof
end

