-- ==== Sys2Proof/Machine/State.lean ====
section
/-! DEFINITION. The state of the machine (spec/10_state), the reasons a Step can stop, and the state after reset. -/

namespace Sys2Proof.Machine

/-- The two kinds of memory access a fault records (60_exceptions R150). -/
inductive Access where
  | read
  | write
deriving DecidableEq, Repr

/-- The three causes of a fault of the block, with what each records (60_exceptions R150). Raising one is `takeFault` of
Machine/Ops.lean. -/
inductive Cause where
  /-- The byte `op`, fetched from `addr`, has no handler (R151). -/
  | illegalOpcode (op : Byte) (addr : Word)
  /-- The byte `op`, fetched from `addr`, is the explicit unimplemented-trap `STOP` (R152). -/
  | unimplemented (op : Byte) (addr : Word)
  /-- The address has no row of the decode table for this kind of access (R153). -/
  | undecodedAddress (addr : Word) (kind : Access)
deriving DecidableEq, Repr

/-- `Running` or `Faulted(cause)` (10_state R27). -/
inductive Status where
  | running
  | faulted (cause : Cause)
deriving DecidableEq, Repr

/-- The CPU state (10_state R10, R25, R26), the status (R27), the MMU state (R28), and the parameters (00_scope R6). -/
structure State where
  /-- Accumulator (high byte) and flags (low byte) (R13, R17). -/
  af : Word
  bc : Word
  de : Word
  /-- General purpose; the pointer pair of `(HL)`. -/
  hl : Word
  /-- Stack pointer (R15). -/
  sp : Word
  /-- Program counter (R16). -/
  pc : Word
  halted : Bool
  /-- Machine cycles, without bound (R26). -/
  cycles : Nat
  status : Status
  /-- `overlay_enabled` (R29). -/
  overlayEnabled : Bool
  /-- Cartridge ROM, indexed from 0; no instruction changes it (R28). -/
  rom : Memory
  /-- Boot overlay, 256 bytes; no instruction changes it (R28). -/
  boot : Memory
  /-- Video RAM, index `a - 0x8000`. -/
  vram : Memory
  /-- External RAM, index `a - 0xA000`. -/
  eram : Memory
  /-- Work RAM, index `a - 0xC000`. -/
  wram : Memory
  /-- High RAM, index `a - 0xFF80`. -/
  hram : Memory
  /-- The parameters; no instruction reads any but `windowBank`, `cycPush` and `cycPop`, none changes any. -/
  params : Params
deriving DecidableEq, Repr

/-- Why no Step is enabled (40_step_dispatch R95). These are not the faults of the block, which are `Cause`s kept in
`status` (log 1, log 2). -/
inductive Fault where
  /-- Raised by `step` alone, in a state whose `status` is faulted: the instruction stream has ended. Safe: the machine
  does nothing more (R95). -/
  | stepNotEnabledFaulted (cause : Cause)
  /-- Raised by `step` alone, in a state whose `halted` is true: the machine is stuck (R95, D18). Safe: nothing is
  concluded of such a state, which no run from reset reaches. -/
  | stepNotEnabledHalted
deriving DecidableEq, Repr

/-- Why an instruction has no meaning in this model. -/
inductive Refusal where
  /-- Raised by an arm of `exec` whose instruction has no meaning yet. Safe. No arm of this model does. -/
  | notModelled (mnemonic : String)
deriving DecidableEq, Repr

/-- A fresh instance from its parameters and memory contents (10_state R33, 70_reset_and_hazards R170, R171 (b)). -/
def State.construct (p : Params) (img : Images) : State :=
  { af := resetAf, bc := p.resetBc, de := p.resetDe, hl := p.resetHl, sp := resetSp, pc := p.resetPc,
    halted := false, cycles := 0, status := .running, overlayEnabled := true,
    rom := img.rom, boot := img.boot, vram := img.vram, eram := img.eram, wram := img.wram, hram := img.hram,
    params := p }

/-- The machine right after reset: the fresh instance with the default parameters and nothing listed in any memory
(R33; logs 4 to 7). -/
def State.reset : State := State.construct defaultParams emptyImages

end Sys2Proof.Machine
end

