-- ==== Sys2Proof/Machine/Mmu.lean ====
section
/-! DEFINITION. The address decode of the MMU and its two operations (spec/20_memory R41 to R55). -/

namespace Sys2Proof.Machine

/-- The rows of the decode table (R42). -/
inductive Region where
  /-- 0x0000 to 0x00FF: overlay while enabled, else ROM (R46). -/
  | overlaid
  /-- 0x0100 to 0x3FFF (R47). -/
  | romBank0
  /-- 0x4000 to 0x7FFF (R48). -/
  | romWindow
  | vram
  | eram
  | wram
  /-- 0xFF50, write only (R53, R54). -/
  | overlayDisable
  | hram
  /-- 0xE000 to 0xFF4F, 0xFF51 to 0xFF7F, 0xFFFF (R55). -/
  | undecoded
deriving DecidableEq, Repr

/-- The row an address falls in (R42). -/
def regionOf (a : Word) : Region :=
  if a.toNat ≤ 0x00FF then .overlaid
  else if a.toNat ≤ 0x3FFF then .romBank0
  else if a.toNat ≤ 0x7FFF then .romWindow
  else if a.toNat ≤ 0x9FFF then .vram
  else if a.toNat ≤ 0xBFFF then .eram
  else if a.toNat ≤ 0xDFFF then .wram
  else if a.toNat = 0xFF50 then .overlayDisable
  else if 0xFF80 ≤ a.toNat ∧ a.toNat ≤ 0xFFFE then .hram
  else .undecoded

/-- The ROM byte a window address shows: bank `WINDOW_BANK` (R48). -/
def windowIndex (p : Params) (a : Word) : Nat := p.windowBank * 0x4000 + (a.toNat - 0x4000)

/-- `MemRead(a, 1)` (R44): `none` where it raises `UndecodedAddress(a, read)`. A read changes no state (R59). -/
def memRead (s : State) (a : Word) : Option Byte :=
  match regionOf a with
  | .overlaid => some (if s.overlayEnabled then s.boot.read a.toNat else s.rom.read a.toNat)
  | .romBank0 => some (s.rom.read a.toNat)
  | .romWindow => some (s.rom.read (windowIndex s.params a))
  | .vram => some (s.vram.read (a.toNat - 0x8000))
  | .eram => some (s.eram.read (a.toNat - 0xA000))
  | .wram => some (s.wram.read (a.toNat - 0xC000))
  | .hram => some (s.hram.read (a.toNat - 0xFF80))
  | .overlayDisable => none
  | .undecoded => none

/-- `MemWrite(a, 1, v)` (R45): `none` where it raises `UndecodedAddress(a, write)`. -/
def memWrite (s : State) (a : Word) (v : Byte) : Option State :=
  match regionOf a with
  | .overlaid | .romBank0 | .romWindow => some s
  | .vram => some { s with vram := s.vram.write (a.toNat - 0x8000) v }
  | .eram => some { s with eram := s.eram.write (a.toNat - 0xA000) v }
  | .wram => some { s with wram := s.wram.write (a.toNat - 0xC000) v }
  | .hram => some { s with hram := s.hram.write (a.toNat - 0xFF80) v }
  | .overlayDisable => some { s with overlayEnabled := false }
  | .undecoded => none

end Sys2Proof.Machine
end

