-- ==== Sys2Proof/Machine/Pairs.lean ====
section
/-! DEFINITION. The two bytes of a 16-bit value (spec/10_state R11; notation `h ++ l` of 00_scope R8). -/

namespace Sys2Proof

/-- `get_high(v) = v[15:8]` (R11). -/
def getHigh (v : Word) : Byte := v.extractLsb' 8 8

/-- `get_low(v) = v[7:0]` (R11). -/
def getLow (v : Word) : Byte := v.extractLsb' 0 8

/-- `(high << 8) | low` (R8, R11). -/
def joinBytes (high low : Byte) : Word := high ++ low

/-- `set_high(v, b)` (R11): the low byte of `v` is kept (R12). -/
def setHigh (v : Word) (b : Byte) : Word := joinBytes b (getLow v)

/-- `set_low(v, b)` (R11): the high byte of `v` is kept (R12). -/
def setLow (v : Word) (b : Byte) : Word := joinBytes (getHigh v) b

end Sys2Proof
end

