-- ==== Sys2Proof/Syntax.lean ====
section
/-! DEFINITION. The instructions: the operands, one constructor of `Instr` for each of the 256 rows of
spec/opcode_table.json (30_encoding R78), and the form of each, which says which rule gives it its meaning. -/

namespace Sys2Proof

/-- An 8-bit register operand `r` (30_encoding R70). `F` is none (10_state R14). -/
inductive Reg8 where
  | b | c | d | e | h | l | a
deriving DecidableEq, Repr

/-- A pair operand `rr` of `LD rr,d16`, `INC rr`, `DEC rr` (30_encoding R71). -/
inductive Pair where
  | bc | de | hl | sp
deriving DecidableEq, Repr

/-- A pair operand `rr` of `PUSH rr`, `POP rr` (30_encoding R71). -/
inductive StackPair where
  | bc | de | hl | af
deriving DecidableEq, Repr

/-- An instruction, one constructor per opcode byte (30_encoding R78), with its immediate operand. An undecoded byte is
a constructor too: it has the meaning 44_misc_control R142 gives it. -/
inductive Instr where
  | nop
  | ldBC_d16 (d16 : Word)
  | undecoded02
  | incBC
  | incB
  | decB
  | ldB_d8 (d8 : Byte)
  | undecoded07
  | undecoded08
  | undecoded09
  | undecoded0A
  | decBC
  | incC
  | decC
  | ldC_d8 (d8 : Byte)
  | undecoded0F
  | stop
  | ldDE_d16 (d16 : Word)
  | undecoded12
  | incDE
  | incD
  | decD
  | ldD_d8 (d8 : Byte)
  | undecoded17
  | undecoded18
  | undecoded19
  | undecoded1A
  | decDE
  | incE
  | decE
  | ldE_d8 (d8 : Byte)
  | undecoded1F
  | undecoded20
  | ldHL_d16 (d16 : Word)
  | ldAtHLInc_A
  | incHL
  | incH
  | decH
  | ldH_d8 (d8 : Byte)
  | undecoded27
  | undecoded28
  | undecoded29
  | ldA_atHLInc
  | decHL
  | incL
  | decL
  | ldL_d8 (d8 : Byte)
  | undecoded2F
  | undecoded30
  | ldSP_d16 (d16 : Word)
  | ldAtHLDec_A
  | incSP
  | undecoded34
  | undecoded35
  | ldAtHL_d8 (d8 : Byte)
  | undecoded37
  | undecoded38
  | undecoded39
  | ldA_atHLDec
  | decSP
  | incA
  | decA
  | ldA_d8 (d8 : Byte)
  | undecoded3F
  | ldB_B
  | ldB_C
  | ldB_D
  | ldB_E
  | ldB_H
  | ldB_L
  | ldB_atHL
  | ldB_A
  | ldC_B
  | ldC_C
  | ldC_D
  | ldC_E
  | ldC_H
  | ldC_L
  | ldC_atHL
  | ldC_A
  | ldD_B
  | ldD_C
  | ldD_D
  | ldD_E
  | ldD_H
  | ldD_L
  | ldD_atHL
  | ldD_A
  | ldE_B
  | ldE_C
  | ldE_D
  | ldE_E
  | ldE_H
  | ldE_L
  | ldE_atHL
  | ldE_A
  | ldH_B
  | ldH_C
  | ldH_D
  | ldH_E
  | ldH_H
  | ldH_L
  | ldH_atHL
  | ldH_A
  | ldL_B
  | ldL_C
  | ldL_D
  | ldL_E
  | ldL_H
  | ldL_L
  | ldL_atHL
  | ldL_A
  | ldAtHL_B
  | ldAtHL_C
  | ldAtHL_D
  | ldAtHL_E
  | ldAtHL_H
  | ldAtHL_L
  | undecoded76
  | ldAtHL_A
  | ldA_B
  | ldA_C
  | ldA_D
  | ldA_E
  | ldA_H
  | ldA_L
  | ldA_atHL
  | ldA_A
  | undecoded80
  | undecoded81
  | undecoded82
  | undecoded83
  | undecoded84
  | undecoded85
  | undecoded86
  | undecoded87
  | undecoded88
  | undecoded89
  | undecoded8A
  | undecoded8B
  | undecoded8C
  | undecoded8D
  | undecoded8E
  | undecoded8F
  | undecoded90
  | undecoded91
  | undecoded92
  | undecoded93
  | undecoded94
  | undecoded95
  | undecoded96
  | undecoded97
  | undecoded98
  | undecoded99
  | undecoded9A
  | undecoded9B
  | undecoded9C
  | undecoded9D
  | undecoded9E
  | undecoded9F
  | undecodedA0
  | undecodedA1
  | undecodedA2
  | undecodedA3
  | undecodedA4
  | undecodedA5
  | undecodedA6
  | undecodedA7
  | undecodedA8
  | undecodedA9
  | undecodedAA
  | undecodedAB
  | undecodedAC
  | undecodedAD
  | undecodedAE
  | undecodedAF
  | undecodedB0
  | undecodedB1
  | undecodedB2
  | undecodedB3
  | undecodedB4
  | undecodedB5
  | undecodedB6
  | undecodedB7
  | undecodedB8
  | undecodedB9
  | undecodedBA
  | undecodedBB
  | undecodedBC
  | undecodedBD
  | undecodedBE
  | undecodedBF
  | undecodedC0
  | popBC
  | undecodedC2
  | undecodedC3
  | undecodedC4
  | pushBC
  | undecodedC6
  | undecodedC7
  | undecodedC8
  | undecodedC9
  | undecodedCA
  | undecodedCB
  | undecodedCC
  | undecodedCD
  | undecodedCE
  | undecodedCF
  | undecodedD0
  | popDE
  | undecodedD2
  | undecodedD3
  | undecodedD4
  | pushDE
  | undecodedD6
  | undecodedD7
  | undecodedD8
  | undecodedD9
  | undecodedDA
  | undecodedDB
  | undecodedDC
  | undecodedDD
  | undecodedDE
  | undecodedDF
  | undecodedE0
  | popHL
  | undecodedE2
  | undecodedE3
  | undecodedE4
  | pushHL
  | undecodedE6
  | undecodedE7
  | undecodedE8
  | undecodedE9
  | undecodedEA
  | undecodedEB
  | undecodedEC
  | undecodedED
  | undecodedEE
  | undecodedEF
  | undecodedF0
  | popAF
  | undecodedF2
  | undecodedF3
  | undecodedF4
  | pushAF
  | undecodedF6
  | undecodedF7
  | undecodedF8
  | undecodedF9
  | undecodedFA
  | undecodedFB
  | undecodedFC
  | undecodedFD
  | undecodedFE
  | undecodedFF
deriving DecidableEq, Repr

/-- The instruction families of 00_scope R3, with their operands. -/
inductive Form where
  /-- `NOP` (R140). -/
  | nop
  /-- `STOP` (R141). -/
  | stop
  /-- `LD r,r'` (R100): destination, source. -/
  | ldRegReg (dst src : Reg8)
  /-- `LD r,(HL)` (R101). -/
  | ldRegAtHL (dst : Reg8)
  /-- `LD (HL),r` (R102). -/
  | ldAtHLReg (src : Reg8)
  /-- `LD r,d8` (R103). -/
  | ldRegImm (dst : Reg8) (d8 : Byte)
  /-- `LD (HL),d8` (R104). -/
  | ldAtHLImm (d8 : Byte)
  /-- `LD (HL+),A` (R105). -/
  | ldAtHLIncA
  /-- `LD (HL-),A` (R106). -/
  | ldAtHLDecA
  /-- `LD A,(HL+)` (R107). -/
  | ldAAtHLInc
  /-- `LD A,(HL-)` (R108). -/
  | ldAAtHLDec
  /-- `LD rr,d16` (R120). -/
  | ldPairImm (dst : Pair) (d16 : Word)
  /-- `PUSH rr` (R121). -/
  | push (src : StackPair)
  /-- `POP rr` (R122). -/
  | pop (dst : StackPair)
  /-- `INC r` (R130). -/
  | incReg (r : Reg8)
  /-- `DEC r` (R131). -/
  | decReg (r : Reg8)
  /-- `INC rr` (R132). -/
  | incPair (rr : Pair)
  /-- `DEC rr` (R133). -/
  | decPair (rr : Pair)
  /-- An opcode byte with no handler (R142). -/
  | undecoded (op : Byte)
deriving DecidableEq, Repr

/-- The family and operands of each instruction. -/
def Instr.form : Instr → Form
  | .nop => .nop
  | .ldBC_d16 d16 => .ldPairImm .bc d16
  | .undecoded02 => .undecoded 0x02
  | .incBC => .incPair .bc
  | .incB => .incReg .b
  | .decB => .decReg .b
  | .ldB_d8 d8 => .ldRegImm .b d8
  | .undecoded07 => .undecoded 0x07
  | .undecoded08 => .undecoded 0x08
  | .undecoded09 => .undecoded 0x09
  | .undecoded0A => .undecoded 0x0A
  | .decBC => .decPair .bc
  | .incC => .incReg .c
  | .decC => .decReg .c
  | .ldC_d8 d8 => .ldRegImm .c d8
  | .undecoded0F => .undecoded 0x0F
  | .stop => .stop
  | .ldDE_d16 d16 => .ldPairImm .de d16
  | .undecoded12 => .undecoded 0x12
  | .incDE => .incPair .de
  | .incD => .incReg .d
  | .decD => .decReg .d
  | .ldD_d8 d8 => .ldRegImm .d d8
  | .undecoded17 => .undecoded 0x17
  | .undecoded18 => .undecoded 0x18
  | .undecoded19 => .undecoded 0x19
  | .undecoded1A => .undecoded 0x1A
  | .decDE => .decPair .de
  | .incE => .incReg .e
  | .decE => .decReg .e
  | .ldE_d8 d8 => .ldRegImm .e d8
  | .undecoded1F => .undecoded 0x1F
  | .undecoded20 => .undecoded 0x20
  | .ldHL_d16 d16 => .ldPairImm .hl d16
  | .ldAtHLInc_A => .ldAtHLIncA
  | .incHL => .incPair .hl
  | .incH => .incReg .h
  | .decH => .decReg .h
  | .ldH_d8 d8 => .ldRegImm .h d8
  | .undecoded27 => .undecoded 0x27
  | .undecoded28 => .undecoded 0x28
  | .undecoded29 => .undecoded 0x29
  | .ldA_atHLInc => .ldAAtHLInc
  | .decHL => .decPair .hl
  | .incL => .incReg .l
  | .decL => .decReg .l
  | .ldL_d8 d8 => .ldRegImm .l d8
  | .undecoded2F => .undecoded 0x2F
  | .undecoded30 => .undecoded 0x30
  | .ldSP_d16 d16 => .ldPairImm .sp d16
  | .ldAtHLDec_A => .ldAtHLDecA
  | .incSP => .incPair .sp
  | .undecoded34 => .undecoded 0x34
  | .undecoded35 => .undecoded 0x35
  | .ldAtHL_d8 d8 => .ldAtHLImm d8
  | .undecoded37 => .undecoded 0x37
  | .undecoded38 => .undecoded 0x38
  | .undecoded39 => .undecoded 0x39
  | .ldA_atHLDec => .ldAAtHLDec
  | .decSP => .decPair .sp
  | .incA => .incReg .a
  | .decA => .decReg .a
  | .ldA_d8 d8 => .ldRegImm .a d8
  | .undecoded3F => .undecoded 0x3F
  | .ldB_B => .ldRegReg .b .b
  | .ldB_C => .ldRegReg .b .c
  | .ldB_D => .ldRegReg .b .d
  | .ldB_E => .ldRegReg .b .e
  | .ldB_H => .ldRegReg .b .h
  | .ldB_L => .ldRegReg .b .l
  | .ldB_atHL => .ldRegAtHL .b
  | .ldB_A => .ldRegReg .b .a
  | .ldC_B => .ldRegReg .c .b
  | .ldC_C => .ldRegReg .c .c
  | .ldC_D => .ldRegReg .c .d
  | .ldC_E => .ldRegReg .c .e
  | .ldC_H => .ldRegReg .c .h
  | .ldC_L => .ldRegReg .c .l
  | .ldC_atHL => .ldRegAtHL .c
  | .ldC_A => .ldRegReg .c .a
  | .ldD_B => .ldRegReg .d .b
  | .ldD_C => .ldRegReg .d .c
  | .ldD_D => .ldRegReg .d .d
  | .ldD_E => .ldRegReg .d .e
  | .ldD_H => .ldRegReg .d .h
  | .ldD_L => .ldRegReg .d .l
  | .ldD_atHL => .ldRegAtHL .d
  | .ldD_A => .ldRegReg .d .a
  | .ldE_B => .ldRegReg .e .b
  | .ldE_C => .ldRegReg .e .c
  | .ldE_D => .ldRegReg .e .d
  | .ldE_E => .ldRegReg .e .e
  | .ldE_H => .ldRegReg .e .h
  | .ldE_L => .ldRegReg .e .l
  | .ldE_atHL => .ldRegAtHL .e
  | .ldE_A => .ldRegReg .e .a
  | .ldH_B => .ldRegReg .h .b
  | .ldH_C => .ldRegReg .h .c
  | .ldH_D => .ldRegReg .h .d
  | .ldH_E => .ldRegReg .h .e
  | .ldH_H => .ldRegReg .h .h
  | .ldH_L => .ldRegReg .h .l
  | .ldH_atHL => .ldRegAtHL .h
  | .ldH_A => .ldRegReg .h .a
  | .ldL_B => .ldRegReg .l .b
  | .ldL_C => .ldRegReg .l .c
  | .ldL_D => .ldRegReg .l .d
  | .ldL_E => .ldRegReg .l .e
  | .ldL_H => .ldRegReg .l .h
  | .ldL_L => .ldRegReg .l .l
  | .ldL_atHL => .ldRegAtHL .l
  | .ldL_A => .ldRegReg .l .a
  | .ldAtHL_B => .ldAtHLReg .b
  | .ldAtHL_C => .ldAtHLReg .c
  | .ldAtHL_D => .ldAtHLReg .d
  | .ldAtHL_E => .ldAtHLReg .e
  | .ldAtHL_H => .ldAtHLReg .h
  | .ldAtHL_L => .ldAtHLReg .l
  | .undecoded76 => .undecoded 0x76
  | .ldAtHL_A => .ldAtHLReg .a
  | .ldA_B => .ldRegReg .a .b
  | .ldA_C => .ldRegReg .a .c
  | .ldA_D => .ldRegReg .a .d
  | .ldA_E => .ldRegReg .a .e
  | .ldA_H => .ldRegReg .a .h
  | .ldA_L => .ldRegReg .a .l
  | .ldA_atHL => .ldRegAtHL .a
  | .ldA_A => .ldRegReg .a .a
  | .undecoded80 => .undecoded 0x80
  | .undecoded81 => .undecoded 0x81
  | .undecoded82 => .undecoded 0x82
  | .undecoded83 => .undecoded 0x83
  | .undecoded84 => .undecoded 0x84
  | .undecoded85 => .undecoded 0x85
  | .undecoded86 => .undecoded 0x86
  | .undecoded87 => .undecoded 0x87
  | .undecoded88 => .undecoded 0x88
  | .undecoded89 => .undecoded 0x89
  | .undecoded8A => .undecoded 0x8A
  | .undecoded8B => .undecoded 0x8B
  | .undecoded8C => .undecoded 0x8C
  | .undecoded8D => .undecoded 0x8D
  | .undecoded8E => .undecoded 0x8E
  | .undecoded8F => .undecoded 0x8F
  | .undecoded90 => .undecoded 0x90
  | .undecoded91 => .undecoded 0x91
  | .undecoded92 => .undecoded 0x92
  | .undecoded93 => .undecoded 0x93
  | .undecoded94 => .undecoded 0x94
  | .undecoded95 => .undecoded 0x95
  | .undecoded96 => .undecoded 0x96
  | .undecoded97 => .undecoded 0x97
  | .undecoded98 => .undecoded 0x98
  | .undecoded99 => .undecoded 0x99
  | .undecoded9A => .undecoded 0x9A
  | .undecoded9B => .undecoded 0x9B
  | .undecoded9C => .undecoded 0x9C
  | .undecoded9D => .undecoded 0x9D
  | .undecoded9E => .undecoded 0x9E
  | .undecoded9F => .undecoded 0x9F
  | .undecodedA0 => .undecoded 0xA0
  | .undecodedA1 => .undecoded 0xA1
  | .undecodedA2 => .undecoded 0xA2
  | .undecodedA3 => .undecoded 0xA3
  | .undecodedA4 => .undecoded 0xA4
  | .undecodedA5 => .undecoded 0xA5
  | .undecodedA6 => .undecoded 0xA6
  | .undecodedA7 => .undecoded 0xA7
  | .undecodedA8 => .undecoded 0xA8
  | .undecodedA9 => .undecoded 0xA9
  | .undecodedAA => .undecoded 0xAA
  | .undecodedAB => .undecoded 0xAB
  | .undecodedAC => .undecoded 0xAC
  | .undecodedAD => .undecoded 0xAD
  | .undecodedAE => .undecoded 0xAE
  | .undecodedAF => .undecoded 0xAF
  | .undecodedB0 => .undecoded 0xB0
  | .undecodedB1 => .undecoded 0xB1
  | .undecodedB2 => .undecoded 0xB2
  | .undecodedB3 => .undecoded 0xB3
  | .undecodedB4 => .undecoded 0xB4
  | .undecodedB5 => .undecoded 0xB5
  | .undecodedB6 => .undecoded 0xB6
  | .undecodedB7 => .undecoded 0xB7
  | .undecodedB8 => .undecoded 0xB8
  | .undecodedB9 => .undecoded 0xB9
  | .undecodedBA => .undecoded 0xBA
  | .undecodedBB => .undecoded 0xBB
  | .undecodedBC => .undecoded 0xBC
  | .undecodedBD => .undecoded 0xBD
  | .undecodedBE => .undecoded 0xBE
  | .undecodedBF => .undecoded 0xBF
  | .undecodedC0 => .undecoded 0xC0
  | .popBC => .pop .bc
  | .undecodedC2 => .undecoded 0xC2
  | .undecodedC3 => .undecoded 0xC3
  | .undecodedC4 => .undecoded 0xC4
  | .pushBC => .push .bc
  | .undecodedC6 => .undecoded 0xC6
  | .undecodedC7 => .undecoded 0xC7
  | .undecodedC8 => .undecoded 0xC8
  | .undecodedC9 => .undecoded 0xC9
  | .undecodedCA => .undecoded 0xCA
  | .undecodedCB => .undecoded 0xCB
  | .undecodedCC => .undecoded 0xCC
  | .undecodedCD => .undecoded 0xCD
  | .undecodedCE => .undecoded 0xCE
  | .undecodedCF => .undecoded 0xCF
  | .undecodedD0 => .undecoded 0xD0
  | .popDE => .pop .de
  | .undecodedD2 => .undecoded 0xD2
  | .undecodedD3 => .undecoded 0xD3
  | .undecodedD4 => .undecoded 0xD4
  | .pushDE => .push .de
  | .undecodedD6 => .undecoded 0xD6
  | .undecodedD7 => .undecoded 0xD7
  | .undecodedD8 => .undecoded 0xD8
  | .undecodedD9 => .undecoded 0xD9
  | .undecodedDA => .undecoded 0xDA
  | .undecodedDB => .undecoded 0xDB
  | .undecodedDC => .undecoded 0xDC
  | .undecodedDD => .undecoded 0xDD
  | .undecodedDE => .undecoded 0xDE
  | .undecodedDF => .undecoded 0xDF
  | .undecodedE0 => .undecoded 0xE0
  | .popHL => .pop .hl
  | .undecodedE2 => .undecoded 0xE2
  | .undecodedE3 => .undecoded 0xE3
  | .undecodedE4 => .undecoded 0xE4
  | .pushHL => .push .hl
  | .undecodedE6 => .undecoded 0xE6
  | .undecodedE7 => .undecoded 0xE7
  | .undecodedE8 => .undecoded 0xE8
  | .undecodedE9 => .undecoded 0xE9
  | .undecodedEA => .undecoded 0xEA
  | .undecodedEB => .undecoded 0xEB
  | .undecodedEC => .undecoded 0xEC
  | .undecodedED => .undecoded 0xED
  | .undecodedEE => .undecoded 0xEE
  | .undecodedEF => .undecoded 0xEF
  | .undecodedF0 => .undecoded 0xF0
  | .popAF => .pop .af
  | .undecodedF2 => .undecoded 0xF2
  | .undecodedF3 => .undecoded 0xF3
  | .undecodedF4 => .undecoded 0xF4
  | .pushAF => .push .af
  | .undecodedF6 => .undecoded 0xF6
  | .undecodedF7 => .undecoded 0xF7
  | .undecodedF8 => .undecoded 0xF8
  | .undecodedF9 => .undecoded 0xF9
  | .undecodedFA => .undecoded 0xFA
  | .undecodedFB => .undecoded 0xFB
  | .undecodedFC => .undecoded 0xFC
  | .undecodedFD => .undecoded 0xFD
  | .undecodedFE => .undecoded 0xFE
  | .undecodedFF => .undecoded 0xFF

/-- The spelling of 30_encoding R84 (`d8`, `d16` for the immediate); an undecoded byte has no spelling of its own. -/
def Instr.spelling : Instr → String
  | .nop => "NOP"
  | .ldBC_d16 _ => "LD BC,d16"
  | .undecoded02 => "(undecoded 0x02)"
  | .incBC => "INC BC"
  | .incB => "INC B"
  | .decB => "DEC B"
  | .ldB_d8 _ => "LD B,d8"
  | .undecoded07 => "(undecoded 0x07)"
  | .undecoded08 => "(undecoded 0x08)"
  | .undecoded09 => "(undecoded 0x09)"
  | .undecoded0A => "(undecoded 0x0A)"
  | .decBC => "DEC BC"
  | .incC => "INC C"
  | .decC => "DEC C"
  | .ldC_d8 _ => "LD C,d8"
  | .undecoded0F => "(undecoded 0x0F)"
  | .stop => "STOP"
  | .ldDE_d16 _ => "LD DE,d16"
  | .undecoded12 => "(undecoded 0x12)"
  | .incDE => "INC DE"
  | .incD => "INC D"
  | .decD => "DEC D"
  | .ldD_d8 _ => "LD D,d8"
  | .undecoded17 => "(undecoded 0x17)"
  | .undecoded18 => "(undecoded 0x18)"
  | .undecoded19 => "(undecoded 0x19)"
  | .undecoded1A => "(undecoded 0x1A)"
  | .decDE => "DEC DE"
  | .incE => "INC E"
  | .decE => "DEC E"
  | .ldE_d8 _ => "LD E,d8"
  | .undecoded1F => "(undecoded 0x1F)"
  | .undecoded20 => "(undecoded 0x20)"
  | .ldHL_d16 _ => "LD HL,d16"
  | .ldAtHLInc_A => "LD (HL+),A"
  | .incHL => "INC HL"
  | .incH => "INC H"
  | .decH => "DEC H"
  | .ldH_d8 _ => "LD H,d8"
  | .undecoded27 => "(undecoded 0x27)"
  | .undecoded28 => "(undecoded 0x28)"
  | .undecoded29 => "(undecoded 0x29)"
  | .ldA_atHLInc => "LD A,(HL+)"
  | .decHL => "DEC HL"
  | .incL => "INC L"
  | .decL => "DEC L"
  | .ldL_d8 _ => "LD L,d8"
  | .undecoded2F => "(undecoded 0x2F)"
  | .undecoded30 => "(undecoded 0x30)"
  | .ldSP_d16 _ => "LD SP,d16"
  | .ldAtHLDec_A => "LD (HL-),A"
  | .incSP => "INC SP"
  | .undecoded34 => "(undecoded 0x34)"
  | .undecoded35 => "(undecoded 0x35)"
  | .ldAtHL_d8 _ => "LD (HL),d8"
  | .undecoded37 => "(undecoded 0x37)"
  | .undecoded38 => "(undecoded 0x38)"
  | .undecoded39 => "(undecoded 0x39)"
  | .ldA_atHLDec => "LD A,(HL-)"
  | .decSP => "DEC SP"
  | .incA => "INC A"
  | .decA => "DEC A"
  | .ldA_d8 _ => "LD A,d8"
  | .undecoded3F => "(undecoded 0x3F)"
  | .ldB_B => "LD B,B"
  | .ldB_C => "LD B,C"
  | .ldB_D => "LD B,D"
  | .ldB_E => "LD B,E"
  | .ldB_H => "LD B,H"
  | .ldB_L => "LD B,L"
  | .ldB_atHL => "LD B,(HL)"
  | .ldB_A => "LD B,A"
  | .ldC_B => "LD C,B"
  | .ldC_C => "LD C,C"
  | .ldC_D => "LD C,D"
  | .ldC_E => "LD C,E"
  | .ldC_H => "LD C,H"
  | .ldC_L => "LD C,L"
  | .ldC_atHL => "LD C,(HL)"
  | .ldC_A => "LD C,A"
  | .ldD_B => "LD D,B"
  | .ldD_C => "LD D,C"
  | .ldD_D => "LD D,D"
  | .ldD_E => "LD D,E"
  | .ldD_H => "LD D,H"
  | .ldD_L => "LD D,L"
  | .ldD_atHL => "LD D,(HL)"
  | .ldD_A => "LD D,A"
  | .ldE_B => "LD E,B"
  | .ldE_C => "LD E,C"
  | .ldE_D => "LD E,D"
  | .ldE_E => "LD E,E"
  | .ldE_H => "LD E,H"
  | .ldE_L => "LD E,L"
  | .ldE_atHL => "LD E,(HL)"
  | .ldE_A => "LD E,A"
  | .ldH_B => "LD H,B"
  | .ldH_C => "LD H,C"
  | .ldH_D => "LD H,D"
  | .ldH_E => "LD H,E"
  | .ldH_H => "LD H,H"
  | .ldH_L => "LD H,L"
  | .ldH_atHL => "LD H,(HL)"
  | .ldH_A => "LD H,A"
  | .ldL_B => "LD L,B"
  | .ldL_C => "LD L,C"
  | .ldL_D => "LD L,D"
  | .ldL_E => "LD L,E"
  | .ldL_H => "LD L,H"
  | .ldL_L => "LD L,L"
  | .ldL_atHL => "LD L,(HL)"
  | .ldL_A => "LD L,A"
  | .ldAtHL_B => "LD (HL),B"
  | .ldAtHL_C => "LD (HL),C"
  | .ldAtHL_D => "LD (HL),D"
  | .ldAtHL_E => "LD (HL),E"
  | .ldAtHL_H => "LD (HL),H"
  | .ldAtHL_L => "LD (HL),L"
  | .undecoded76 => "(undecoded 0x76)"
  | .ldAtHL_A => "LD (HL),A"
  | .ldA_B => "LD A,B"
  | .ldA_C => "LD A,C"
  | .ldA_D => "LD A,D"
  | .ldA_E => "LD A,E"
  | .ldA_H => "LD A,H"
  | .ldA_L => "LD A,L"
  | .ldA_atHL => "LD A,(HL)"
  | .ldA_A => "LD A,A"
  | .undecoded80 => "(undecoded 0x80)"
  | .undecoded81 => "(undecoded 0x81)"
  | .undecoded82 => "(undecoded 0x82)"
  | .undecoded83 => "(undecoded 0x83)"
  | .undecoded84 => "(undecoded 0x84)"
  | .undecoded85 => "(undecoded 0x85)"
  | .undecoded86 => "(undecoded 0x86)"
  | .undecoded87 => "(undecoded 0x87)"
  | .undecoded88 => "(undecoded 0x88)"
  | .undecoded89 => "(undecoded 0x89)"
  | .undecoded8A => "(undecoded 0x8A)"
  | .undecoded8B => "(undecoded 0x8B)"
  | .undecoded8C => "(undecoded 0x8C)"
  | .undecoded8D => "(undecoded 0x8D)"
  | .undecoded8E => "(undecoded 0x8E)"
  | .undecoded8F => "(undecoded 0x8F)"
  | .undecoded90 => "(undecoded 0x90)"
  | .undecoded91 => "(undecoded 0x91)"
  | .undecoded92 => "(undecoded 0x92)"
  | .undecoded93 => "(undecoded 0x93)"
  | .undecoded94 => "(undecoded 0x94)"
  | .undecoded95 => "(undecoded 0x95)"
  | .undecoded96 => "(undecoded 0x96)"
  | .undecoded97 => "(undecoded 0x97)"
  | .undecoded98 => "(undecoded 0x98)"
  | .undecoded99 => "(undecoded 0x99)"
  | .undecoded9A => "(undecoded 0x9A)"
  | .undecoded9B => "(undecoded 0x9B)"
  | .undecoded9C => "(undecoded 0x9C)"
  | .undecoded9D => "(undecoded 0x9D)"
  | .undecoded9E => "(undecoded 0x9E)"
  | .undecoded9F => "(undecoded 0x9F)"
  | .undecodedA0 => "(undecoded 0xA0)"
  | .undecodedA1 => "(undecoded 0xA1)"
  | .undecodedA2 => "(undecoded 0xA2)"
  | .undecodedA3 => "(undecoded 0xA3)"
  | .undecodedA4 => "(undecoded 0xA4)"
  | .undecodedA5 => "(undecoded 0xA5)"
  | .undecodedA6 => "(undecoded 0xA6)"
  | .undecodedA7 => "(undecoded 0xA7)"
  | .undecodedA8 => "(undecoded 0xA8)"
  | .undecodedA9 => "(undecoded 0xA9)"
  | .undecodedAA => "(undecoded 0xAA)"
  | .undecodedAB => "(undecoded 0xAB)"
  | .undecodedAC => "(undecoded 0xAC)"
  | .undecodedAD => "(undecoded 0xAD)"
  | .undecodedAE => "(undecoded 0xAE)"
  | .undecodedAF => "(undecoded 0xAF)"
  | .undecodedB0 => "(undecoded 0xB0)"
  | .undecodedB1 => "(undecoded 0xB1)"
  | .undecodedB2 => "(undecoded 0xB2)"
  | .undecodedB3 => "(undecoded 0xB3)"
  | .undecodedB4 => "(undecoded 0xB4)"
  | .undecodedB5 => "(undecoded 0xB5)"
  | .undecodedB6 => "(undecoded 0xB6)"
  | .undecodedB7 => "(undecoded 0xB7)"
  | .undecodedB8 => "(undecoded 0xB8)"
  | .undecodedB9 => "(undecoded 0xB9)"
  | .undecodedBA => "(undecoded 0xBA)"
  | .undecodedBB => "(undecoded 0xBB)"
  | .undecodedBC => "(undecoded 0xBC)"
  | .undecodedBD => "(undecoded 0xBD)"
  | .undecodedBE => "(undecoded 0xBE)"
  | .undecodedBF => "(undecoded 0xBF)"
  | .undecodedC0 => "(undecoded 0xC0)"
  | .popBC => "POP BC"
  | .undecodedC2 => "(undecoded 0xC2)"
  | .undecodedC3 => "(undecoded 0xC3)"
  | .undecodedC4 => "(undecoded 0xC4)"
  | .pushBC => "PUSH BC"
  | .undecodedC6 => "(undecoded 0xC6)"
  | .undecodedC7 => "(undecoded 0xC7)"
  | .undecodedC8 => "(undecoded 0xC8)"
  | .undecodedC9 => "(undecoded 0xC9)"
  | .undecodedCA => "(undecoded 0xCA)"
  | .undecodedCB => "(undecoded 0xCB)"
  | .undecodedCC => "(undecoded 0xCC)"
  | .undecodedCD => "(undecoded 0xCD)"
  | .undecodedCE => "(undecoded 0xCE)"
  | .undecodedCF => "(undecoded 0xCF)"
  | .undecodedD0 => "(undecoded 0xD0)"
  | .popDE => "POP DE"
  | .undecodedD2 => "(undecoded 0xD2)"
  | .undecodedD3 => "(undecoded 0xD3)"
  | .undecodedD4 => "(undecoded 0xD4)"
  | .pushDE => "PUSH DE"
  | .undecodedD6 => "(undecoded 0xD6)"
  | .undecodedD7 => "(undecoded 0xD7)"
  | .undecodedD8 => "(undecoded 0xD8)"
  | .undecodedD9 => "(undecoded 0xD9)"
  | .undecodedDA => "(undecoded 0xDA)"
  | .undecodedDB => "(undecoded 0xDB)"
  | .undecodedDC => "(undecoded 0xDC)"
  | .undecodedDD => "(undecoded 0xDD)"
  | .undecodedDE => "(undecoded 0xDE)"
  | .undecodedDF => "(undecoded 0xDF)"
  | .undecodedE0 => "(undecoded 0xE0)"
  | .popHL => "POP HL"
  | .undecodedE2 => "(undecoded 0xE2)"
  | .undecodedE3 => "(undecoded 0xE3)"
  | .undecodedE4 => "(undecoded 0xE4)"
  | .pushHL => "PUSH HL"
  | .undecodedE6 => "(undecoded 0xE6)"
  | .undecodedE7 => "(undecoded 0xE7)"
  | .undecodedE8 => "(undecoded 0xE8)"
  | .undecodedE9 => "(undecoded 0xE9)"
  | .undecodedEA => "(undecoded 0xEA)"
  | .undecodedEB => "(undecoded 0xEB)"
  | .undecodedEC => "(undecoded 0xEC)"
  | .undecodedED => "(undecoded 0xED)"
  | .undecodedEE => "(undecoded 0xEE)"
  | .undecodedEF => "(undecoded 0xEF)"
  | .undecodedF0 => "(undecoded 0xF0)"
  | .popAF => "POP AF"
  | .undecodedF2 => "(undecoded 0xF2)"
  | .undecodedF3 => "(undecoded 0xF3)"
  | .undecodedF4 => "(undecoded 0xF4)"
  | .pushAF => "PUSH AF"
  | .undecodedF6 => "(undecoded 0xF6)"
  | .undecodedF7 => "(undecoded 0xF7)"
  | .undecodedF8 => "(undecoded 0xF8)"
  | .undecodedF9 => "(undecoded 0xF9)"
  | .undecodedFA => "(undecoded 0xFA)"
  | .undecodedFB => "(undecoded 0xFB)"
  | .undecodedFC => "(undecoded 0xFC)"
  | .undecodedFD => "(undecoded 0xFD)"
  | .undecodedFE => "(undecoded 0xFE)"
  | .undecodedFF => "(undecoded 0xFF)"

end Sys2Proof
end

