-- ==== Sys2Proof/WellFormed.lean ====
section
/-! DEFINITION. What is well formed: an instruction form, the parameters, and the memory images of a construction. The
operands of `Instr` cannot hold an illegal register or a value too wide, by their types. -/

namespace Sys2Proof

/-- The opcode bytes with no handler, range by range as 30_encoding R79 lists them. -/
def isUndecodedOpcode (op : Byte) : Bool :=
  let n := op.toNat
  let among (l : List Nat) : Bool := l.contains n
  let between (lo hi : Nat) : Bool := decide (lo ≤ n) && decide (n ≤ hi)
  among [0x02, 0x07, 0x08, 0x09, 0x0A, 0x0F]
    || among [0x12, 0x17, 0x18, 0x19, 0x1A, 0x1F]
    || among [0x20, 0x27, 0x28, 0x29, 0x2F]
    || among [0x30, 0x34, 0x35, 0x37, 0x38, 0x39, 0x3F]
    || among [0x76]
    || between 0x80 0xBF
    || among [0xC0, 0xC2, 0xC3, 0xC4] || between 0xC6 0xCF
    || among [0xD0, 0xD2, 0xD3, 0xD4] || between 0xD6 0xDF
    || among [0xE0, 0xE2, 0xE3, 0xE4] || between 0xE6 0xEF
    || among [0xF0, 0xF2, 0xF3, 0xF4] || between 0xF6 0xFF

/-- A form is well formed when the byte it calls undecoded is one (R79). -/
def Form.wf : Form → Bool
  | .undecoded op => isUndecodedOpcode op
  | .nop | .stop | .ldRegReg _ _ | .ldRegAtHL _ | .ldAtHLReg _ | .ldRegImm _ _ | .ldAtHLImm _ | .ldAtHLIncA
  | .ldAtHLDecA | .ldAAtHLInc | .ldAAtHLDec | .ldPairImm _ _ | .push _ | .pop _ | .incReg _ | .decReg _
  | .incPair _ | .decPair _ => true

/-- An instruction is well formed when its form is. -/
def Instr.wf (i : Instr) : Bool := i.form.wf

/-- The constraints of 00_scope R6 on the parameters: a whole bank of ROM (D6), bank 0 in the window (D7), one of the two
entry points (D2); and a push and a pop cost at least one cycle (10_state R26, "every cost is at least 1"). -/
def Params.wf (p : Params) : Bool :=
  decide (0x4000 ≤ p.romLen) && decide (p.windowBank = 0) && (decide (p.resetPc = 0x0100) || decide (p.resetPc = 0x0000))
    && decide (1 ≤ p.cycPush) && decide (1 ≤ p.cycPop)

/-- Each image is a canonical store of the size of its memory (10_state R28); ROM is as long as the parameters say. -/
def Images.wf (p : Params) (img : Images) : Bool :=
  Memory.wf p.romLen img.rom && Memory.wf 0x100 img.boot && Memory.wf 0x2000 img.vram && Memory.wf 0x2000 img.eram
    && Memory.wf 0x2000 img.wram && Memory.wf 0x7F img.hram

end Sys2Proof
end

