-- ==== Sys2Proof/Machine/Ops.lean ====
section
/-! DEFINITION. The named operations the handlers are written with: the program and stack pointers, the end of a handler,
taking a fault, access to memory with the fault it can raise, and construction. -/

namespace Sys2Proof.Machine

/-- What a handler or a Step answers. -/
abbrev Out := Host.Outcome State Fault Refusal

/-- The increment of `Fetch8` (40_step_dispatch R91, 10_state R16), the only change of `pc`. -/
def State.advancePc (s : State) : State := { s with pc := s.pc + 1 }

/-- `at`, the address of the opcode byte, as a handler sees it before it fetches an immediate (40_step_dispatch R90, R94). -/
def State.opcodeAddress (s : State) : Word := s.pc - 1

/-- `x[SP] <- (x[SP] - 1) mod 2^16` (42_load16_stack R121). -/
def State.decSp (s : State) : State := { s with sp := s.sp - 1 }

/-- `x[SP] <- (x[SP] + 1) mod 2^16` (42_load16_stack R122). -/
def State.incSp (s : State) : State := { s with sp := s.sp + 1 }

/-- `cycles <- cycles + n` (40_step_dispatch R90, 10_state R26), the only change of `cycles`. -/
def State.addCycles (s : State) (n : Nat) : State := { s with cycles := s.cycles + n }

/-- `return n` of a handler, with the count the Step adds for it (40_step_dispatch R90). -/
def returnCost (n : Nat) (s : State) : Out := .next (s.addCycles n)

/-- Fault entry (60_exceptions R155): the status takes the cause and nothing else changes; no register is saved, `cycles`
is not advanced, control goes nowhere. `s` holds what the statements before the raise have done (R156). -/
def takeFault (c : Cause) (s : State) : State := { s with status := .faulted c }

/-- `raise c` (R155): the instruction ends here, in the faulted state (log 1). There is no return from a fault (R159); the
way on is reconstruction, below. -/
def raise (c : Cause) (s : State) : Out := .next (takeFault c s)

/-- `MemRead(a, 1)` and the statements after it, or the fault it raises (20_memory R44, 60_exceptions R153). -/
def withRead (s : State) (a : Word) (next : Byte → Out) : Out :=
  match memRead s a with
  | some v => next v
  | none => raise (.undecodedAddress a .read) s

/-- `MemWrite(a, 1, v)` and the statements after it, or the fault it raises (20_memory R45, 60_exceptions R153). -/
def withWrite (s : State) (a : Word) (v : Byte) (next : State → Out) : Out :=
  match memWrite s a v with
  | some t => next t
  | none => raise (.undecodedAddress a .write) s

/-- A fresh CPU over the same MMU (70_reset_and_hazards R171 (a)): the CPU state takes its reset values; memories, the
overlay flag and the parameters stay. -/
def State.reconstructCpu (s : State) : State :=
  { s with af := resetAf, bc := s.params.resetBc, de := s.params.resetDe, hl := s.params.resetHl, sp := resetSp,
           pc := s.params.resetPc, halted := false, cycles := 0, status := .running }

/-- Construction with the preconditions of 70_reset_and_hazards R174 checked: a short ROM or an ill-formed image is refused
(D6). -/
def State.constructChecked (p : Params) (img : Images) : Option State :=
  if p.wf && img.wf p then some (State.construct p img) else none

end Sys2Proof.Machine
end

