-- ==== Sys2Proof/Machine/Flags.lean ====
section
/-! DEFINITION. The flag register, its five operations (spec/10_state R17 to R22) and the flag sets of the 8-bit increment
and decrement (43_incdec R130, R131). -/

namespace Sys2Proof.Machine

/-- The four flags (R17). -/
inductive Flag where
  | z | n | h | c
deriving DecidableEq, Repr

/-- `mask(f)` (R17). -/
def Flag.mask : Flag → Byte
  | .z => 0x80
  | .n => 0x40
  | .h => 0x20
  | .c => 0x10

/-- `x[F]` (R13, R17). -/
def State.readF (s : State) : Byte := getLow s.af

/-- `x[F] <- v`, which stores `v & 0xF0` (R23). -/
def State.writeF (s : State) (v : Byte) : State := { s with af := setLow s.af (v &&& 0xF0) }

/-- `flag(f)` (R18). -/
def State.flag (s : State) (f : Flag) : Bool := decide (s.readF &&& f.mask ≠ 0)

/-- `set_flag(f)` (R19). -/
def State.setFlag (s : State) (f : Flag) : State := s.writeF (s.readF ||| f.mask)

/-- `clear_flag(f)` (R20). -/
def State.clearFlag (s : State) (f : Flag) : State := s.writeF (s.readF &&& ~~~f.mask)

/-- `toggle_flag(f)` (R21); no instruction uses it. -/
def State.toggleFlag (s : State) (f : Flag) : State := s.writeF (s.readF ^^^ f.mask)

/-- The bitwise or of the masks of a set of flags (R22). -/
def flagByte : List Flag → Byte
  | [] => 0
  | f :: fs => f.mask ||| flagByte fs

/-- `reset_flags(S)` (R22): the whole nibble is replaced. -/
def State.resetFlags (s : State) (fs : List Flag) : State := s.writeF (flagByte fs)

/-- The set `S` of `INC r` with result `v` and carry `carry` before (R130). -/
def incFlags (v : Byte) (carry : Bool) : List Flag :=
  (if v = 0 then [.z] else []) ++ (if v &&& 0x0F = 0 then [.h] else []) ++ (if carry then [.c] else [])

/-- The set `S` of `DEC r` with result `v` and carry `carry` before (R131). -/
def decFlags (v : Byte) (carry : Bool) : List Flag :=
  [.n] ++ (if v = 0 then [.z] else []) ++ (if v &&& 0x0F = 0x0F then [.h] else []) ++ (if carry then [.c] else [])

end Sys2Proof.Machine
end

