-- ==== Sys2Proof/Machine/Operands.lean ====
section
/-! DEFINITION. Reading and writing the register operands (spec/10_state R13, 30_encoding R76). -/

namespace Sys2Proof.Machine

/-- `x[r]` (R13). -/
def State.readReg8 (s : State) : Reg8 → Byte
  | .b => getHigh s.bc
  | .c => getLow s.bc
  | .d => getHigh s.de
  | .e => getLow s.de
  | .h => getHigh s.hl
  | .l => getLow s.hl
  | .a => getHigh s.af

/-- `x[r] <- v` (R13): the other half of the pair is kept (R12; log 14 for `A`). -/
def State.writeReg8 (s : State) (r : Reg8) (v : Byte) : State :=
  match r with
  | .b => { s with bc := setHigh s.bc v }
  | .c => { s with bc := setLow s.bc v }
  | .d => { s with de := setHigh s.de v }
  | .e => { s with de := setLow s.de v }
  | .h => { s with hl := setHigh s.hl v }
  | .l => { s with hl := setLow s.hl v }
  | .a => { s with af := setHigh s.af v }

/-- `x[rr]` (R10). -/
def State.readPair (s : State) : Pair → Word
  | .bc => s.bc
  | .de => s.de
  | .hl => s.hl
  | .sp => s.sp

/-- `x[rr] <- v` (R10). -/
def State.writePair (s : State) (rr : Pair) (v : Word) : State :=
  match rr with
  | .bc => { s with bc := v }
  | .de => { s with de := v }
  | .hl => { s with hl := v }
  | .sp => { s with sp := v }

/-- `x[rr]` for the stack instructions (42_load16_stack R121). -/
def State.readStackPair (s : State) : StackPair → Word
  | .bc => s.bc
  | .de => s.de
  | .hl => s.hl
  | .af => s.af

/-- `x[rr] <- v` for the stack instructions (42_load16_stack R122): a write of AF stores `v & 0xFFF0` (10_state R23). -/
def State.writeStackPair (s : State) (rr : StackPair) (v : Word) : State :=
  match rr with
  | .bc => { s with bc := v }
  | .de => { s with de := v }
  | .hl => { s with hl := v }
  | .af => { s with af := v &&& 0xFFF0 }

/-- First half of `LD rr,d16` (R120): `lo <- Fetch8(); x[rr] <- set_low(x[rr], lo)`, the fetched byte being `lo`. -/
def State.loadLowHalf (s : State) (rr : Pair) (lo : Byte) : State :=
  s.advancePc.writePair rr (setLow (s.readPair rr) lo)

/-- Second half of `LD rr,d16` (R120): `hi <- Fetch8(); x[rr] <- set_high(x[rr], hi)`, the fetched byte being `hi`. -/
def State.loadHighHalf (s : State) (rr : Pair) (hi : Byte) : State :=
  s.advancePc.writePair rr (setHigh (s.readPair rr) hi)

end Sys2Proof.Machine
end

