-- ==== Sys2Proof/Machine/IncDec.lean ====
section
/-! DEFINITION. Increment and decrement (spec/43_incdec). Each family once, then one definition per instruction. All
arithmetic wraps (R135). -/

namespace Sys2Proof.Machine

/-- `INC r` (R130). -/
def incReg (r : Reg8) (s : State) : Out :=
  let v := s.readReg8 r + 1
  returnCost 1 ((s.writeReg8 r v).resetFlags (incFlags v (s.flag .c)))

/-- `DEC r` (R131). -/
def decReg (r : Reg8) (s : State) : Out :=
  let v := s.readReg8 r - 1
  returnCost 1 ((s.writeReg8 r v).resetFlags (decFlags v (s.flag .c)))

/-- `INC rr` (R132): no flag is written. -/
def incPair (rr : Pair) (s : State) : Out :=
  returnCost 2 (s.writePair rr (s.readPair rr + 1))

/-- `DEC rr` (R133): no flag is written. -/
def decPair (rr : Pair) (s : State) : Out :=
  returnCost 2 (s.writePair rr (s.readPair rr - 1))

/-- `INC BC`. -/
def execIncBC (s : State) : Out := incPair .bc s

/-- `INC B`. -/
def execIncB (s : State) : Out := incReg .b s

/-- `DEC B`. -/
def execDecB (s : State) : Out := decReg .b s

/-- `DEC BC`. -/
def execDecBC (s : State) : Out := decPair .bc s

/-- `INC C`. -/
def execIncC (s : State) : Out := incReg .c s

/-- `DEC C`. -/
def execDecC (s : State) : Out := decReg .c s

/-- `INC DE`. -/
def execIncDE (s : State) : Out := incPair .de s

/-- `INC D`. -/
def execIncD (s : State) : Out := incReg .d s

/-- `DEC D`. -/
def execDecD (s : State) : Out := decReg .d s

/-- `DEC DE`. -/
def execDecDE (s : State) : Out := decPair .de s

/-- `INC E`. -/
def execIncE (s : State) : Out := incReg .e s

/-- `DEC E`. -/
def execDecE (s : State) : Out := decReg .e s

/-- `INC HL`. -/
def execIncHL (s : State) : Out := incPair .hl s

/-- `INC H`. -/
def execIncH (s : State) : Out := incReg .h s

/-- `DEC H`. -/
def execDecH (s : State) : Out := decReg .h s

/-- `DEC HL`. -/
def execDecHL (s : State) : Out := decPair .hl s

/-- `INC L`. -/
def execIncL (s : State) : Out := incReg .l s

/-- `DEC L`. -/
def execDecL (s : State) : Out := decReg .l s

/-- `INC SP`. -/
def execIncSP (s : State) : Out := incPair .sp s

/-- `DEC SP`. -/
def execDecSP (s : State) : Out := decPair .sp s

/-- `INC A`. -/
def execIncA (s : State) : Out := incReg .a s

/-- `DEC A`. -/
def execDecA (s : State) : Out := decReg .a s

end Sys2Proof.Machine
end

