-- ==== Sys2Proof/Machine/Load16Stack.lean ====
section
/-! DEFINITION. The 16-bit immediate load and the stack instructions (spec/42_load16_stack). Each family once, then one
definition per instruction. -/

namespace Sys2Proof.Machine

/-- `LD rr,d16` (R120): low half, then high half, each after its `Fetch8`. -/
def ldPairImm (dst : Pair) (d16 : Word) (s : State) : Out :=
  returnCost 3 ((s.loadLowHalf dst (getLow d16)).loadHighHalf dst (getHigh d16))

/-- `PUSH rr` (R121): each write at the stack pointer just decremented; a raise leaves the decrements made so far. -/
def push (src : StackPair) (s : State) : Out :=
  let s1 := s.decSp
  withWrite s1 s1.sp (getHigh (s1.readStackPair src)) fun s2 =>
    let s3 := s2.decSp
    withWrite s3 s3.sp (getLow (s3.readStackPair src)) fun s4 => returnCost s4.params.cycPush s4

/-- `POP rr` (R122): each read at the stack pointer before its increment; the pair is written once, after both reads. -/
def pop (dst : StackPair) (s : State) : Out :=
  withRead s s.sp fun lo =>
    let s1 := s.incSp
    withRead s1 s1.sp fun hi =>
      let s2 := s1.incSp
      returnCost s2.params.cycPop (s2.writeStackPair dst (joinBytes hi lo))

/-- `LD BC,d16`. -/
def execLdBC_d16 (d16 : Word) (s : State) : Out := ldPairImm .bc d16 s

/-- `LD DE,d16`. -/
def execLdDE_d16 (d16 : Word) (s : State) : Out := ldPairImm .de d16 s

/-- `LD HL,d16`. -/
def execLdHL_d16 (d16 : Word) (s : State) : Out := ldPairImm .hl d16 s

/-- `LD SP,d16`. -/
def execLdSP_d16 (d16 : Word) (s : State) : Out := ldPairImm .sp d16 s

/-- `POP BC`. -/
def execPopBC (s : State) : Out := pop .bc s

/-- `PUSH BC`. -/
def execPushBC (s : State) : Out := push .bc s

/-- `POP DE`. -/
def execPopDE (s : State) : Out := pop .de s

/-- `PUSH DE`. -/
def execPushDE (s : State) : Out := push .de s

/-- `POP HL`. -/
def execPopHL (s : State) : Out := pop .hl s

/-- `PUSH HL`. -/
def execPushHL (s : State) : Out := push .hl s

/-- `POP AF`. -/
def execPopAF (s : State) : Out := pop .af s

/-- `PUSH AF`. -/
def execPushAF (s : State) : Out := push .af s

end Sys2Proof.Machine
end

