-- ==== Sys2Proof/Machine/Load8.lean ====
section
/-! DEFINITION. The 8-bit loads (spec/41_load_8bit). Each family once, then one definition per instruction. None of them
writes a flag. -/

namespace Sys2Proof.Machine

/-- `LD r,r'` (R100). -/
def ldRegReg (dst src : Reg8) (s : State) : Out :=
  returnCost 1 (s.writeReg8 dst (s.readReg8 src))

/-- `LD r,(HL)` (R101). -/
def ldRegAtHL (dst : Reg8) (s : State) : Out :=
  withRead s s.hl fun v => returnCost 2 (s.writeReg8 dst v)

/-- `LD (HL),r` (R102). -/
def ldAtHLReg (src : Reg8) (s : State) : Out :=
  withWrite s s.hl (s.readReg8 src) fun s1 => returnCost 2 s1

/-- `LD r,d8` (R103): the handler's `Fetch8` has the value `d8`. -/
def ldRegImm (dst : Reg8) (d8 : Byte) (s : State) : Out :=
  returnCost 2 (s.advancePc.writeReg8 dst d8)

/-- `LD (HL),d8` (R104): the immediate is fetched before the write. -/
def ldAtHLImm (d8 : Byte) (s : State) : Out :=
  withWrite s.advancePc s.advancePc.hl d8 fun s1 => returnCost 3 s1

/-- `LD (HL+),A` (R105): the write is at the old HL and comes first. -/
def ldAtHLIncA (s : State) : Out :=
  withWrite s s.hl (s.readReg8 .a) fun s1 => returnCost 2 (s1.writePair .hl (s1.hl + 1))

/-- `LD (HL-),A` (R106). -/
def ldAtHLDecA (s : State) : Out :=
  withWrite s s.hl (s.readReg8 .a) fun s1 => returnCost 2 (s1.writePair .hl (s1.hl - 1))

/-- `LD A,(HL+)` (R107): the read is at the old HL and comes first. -/
def ldAAtHLInc (s : State) : Out :=
  withRead s s.hl fun v => returnCost 2 ((s.writeReg8 .a v).writePair .hl (s.hl + 1))

/-- `LD A,(HL-)` (R108). -/
def ldAAtHLDec (s : State) : Out :=
  withRead s s.hl fun v => returnCost 2 ((s.writeReg8 .a v).writePair .hl (s.hl - 1))

/-- `LD B,d8`. -/
def execLdB_d8 (d8 : Byte) (s : State) : Out := ldRegImm .b d8 s

/-- `LD C,d8`. -/
def execLdC_d8 (d8 : Byte) (s : State) : Out := ldRegImm .c d8 s

/-- `LD D,d8`. -/
def execLdD_d8 (d8 : Byte) (s : State) : Out := ldRegImm .d d8 s

/-- `LD E,d8`. -/
def execLdE_d8 (d8 : Byte) (s : State) : Out := ldRegImm .e d8 s

/-- `LD (HL+),A`. -/
def execLdAtHLInc_A (s : State) : Out := ldAtHLIncA s

/-- `LD H,d8`. -/
def execLdH_d8 (d8 : Byte) (s : State) : Out := ldRegImm .h d8 s

/-- `LD A,(HL+)`. -/
def execLdA_atHLInc (s : State) : Out := ldAAtHLInc s

/-- `LD L,d8`. -/
def execLdL_d8 (d8 : Byte) (s : State) : Out := ldRegImm .l d8 s

/-- `LD (HL-),A`. -/
def execLdAtHLDec_A (s : State) : Out := ldAtHLDecA s

/-- `LD (HL),d8`. -/
def execLdAtHL_d8 (d8 : Byte) (s : State) : Out := ldAtHLImm d8 s

/-- `LD A,(HL-)`. -/
def execLdA_atHLDec (s : State) : Out := ldAAtHLDec s

/-- `LD A,d8`. -/
def execLdA_d8 (d8 : Byte) (s : State) : Out := ldRegImm .a d8 s

/-- `LD B,B`. -/
def execLdB_B (s : State) : Out := ldRegReg .b .b s

/-- `LD B,C`. -/
def execLdB_C (s : State) : Out := ldRegReg .b .c s

/-- `LD B,D`. -/
def execLdB_D (s : State) : Out := ldRegReg .b .d s

/-- `LD B,E`. -/
def execLdB_E (s : State) : Out := ldRegReg .b .e s

/-- `LD B,H`. -/
def execLdB_H (s : State) : Out := ldRegReg .b .h s

/-- `LD B,L`. -/
def execLdB_L (s : State) : Out := ldRegReg .b .l s

/-- `LD B,(HL)`. -/
def execLdB_atHL (s : State) : Out := ldRegAtHL .b s

/-- `LD B,A`. -/
def execLdB_A (s : State) : Out := ldRegReg .b .a s

/-- `LD C,B`. -/
def execLdC_B (s : State) : Out := ldRegReg .c .b s

/-- `LD C,C`. -/
def execLdC_C (s : State) : Out := ldRegReg .c .c s

/-- `LD C,D`. -/
def execLdC_D (s : State) : Out := ldRegReg .c .d s

/-- `LD C,E`. -/
def execLdC_E (s : State) : Out := ldRegReg .c .e s

/-- `LD C,H`. -/
def execLdC_H (s : State) : Out := ldRegReg .c .h s

/-- `LD C,L`. -/
def execLdC_L (s : State) : Out := ldRegReg .c .l s

/-- `LD C,(HL)`. -/
def execLdC_atHL (s : State) : Out := ldRegAtHL .c s

/-- `LD C,A`. -/
def execLdC_A (s : State) : Out := ldRegReg .c .a s

/-- `LD D,B`. -/
def execLdD_B (s : State) : Out := ldRegReg .d .b s

/-- `LD D,C`. -/
def execLdD_C (s : State) : Out := ldRegReg .d .c s

/-- `LD D,D`. -/
def execLdD_D (s : State) : Out := ldRegReg .d .d s

/-- `LD D,E`. -/
def execLdD_E (s : State) : Out := ldRegReg .d .e s

/-- `LD D,H`. -/
def execLdD_H (s : State) : Out := ldRegReg .d .h s

/-- `LD D,L`. -/
def execLdD_L (s : State) : Out := ldRegReg .d .l s

/-- `LD D,(HL)`. -/
def execLdD_atHL (s : State) : Out := ldRegAtHL .d s

/-- `LD D,A`. -/
def execLdD_A (s : State) : Out := ldRegReg .d .a s

/-- `LD E,B`. -/
def execLdE_B (s : State) : Out := ldRegReg .e .b s

/-- `LD E,C`. -/
def execLdE_C (s : State) : Out := ldRegReg .e .c s

/-- `LD E,D`. -/
def execLdE_D (s : State) : Out := ldRegReg .e .d s

/-- `LD E,E`. -/
def execLdE_E (s : State) : Out := ldRegReg .e .e s

/-- `LD E,H`. -/
def execLdE_H (s : State) : Out := ldRegReg .e .h s

/-- `LD E,L`. -/
def execLdE_L (s : State) : Out := ldRegReg .e .l s

/-- `LD E,(HL)`. -/
def execLdE_atHL (s : State) : Out := ldRegAtHL .e s

/-- `LD E,A`. -/
def execLdE_A (s : State) : Out := ldRegReg .e .a s

/-- `LD H,B`. -/
def execLdH_B (s : State) : Out := ldRegReg .h .b s

/-- `LD H,C`. -/
def execLdH_C (s : State) : Out := ldRegReg .h .c s

/-- `LD H,D`. -/
def execLdH_D (s : State) : Out := ldRegReg .h .d s

/-- `LD H,E`. -/
def execLdH_E (s : State) : Out := ldRegReg .h .e s

/-- `LD H,H`. -/
def execLdH_H (s : State) : Out := ldRegReg .h .h s

/-- `LD H,L`. -/
def execLdH_L (s : State) : Out := ldRegReg .h .l s

/-- `LD H,(HL)`. -/
def execLdH_atHL (s : State) : Out := ldRegAtHL .h s

/-- `LD H,A`. -/
def execLdH_A (s : State) : Out := ldRegReg .h .a s

/-- `LD L,B`. -/
def execLdL_B (s : State) : Out := ldRegReg .l .b s

/-- `LD L,C`. -/
def execLdL_C (s : State) : Out := ldRegReg .l .c s

/-- `LD L,D`. -/
def execLdL_D (s : State) : Out := ldRegReg .l .d s

/-- `LD L,E`. -/
def execLdL_E (s : State) : Out := ldRegReg .l .e s

/-- `LD L,H`. -/
def execLdL_H (s : State) : Out := ldRegReg .l .h s

/-- `LD L,L`. -/
def execLdL_L (s : State) : Out := ldRegReg .l .l s

/-- `LD L,(HL)`. -/
def execLdL_atHL (s : State) : Out := ldRegAtHL .l s

/-- `LD L,A`. -/
def execLdL_A (s : State) : Out := ldRegReg .l .a s

/-- `LD (HL),B`. -/
def execLdAtHL_B (s : State) : Out := ldAtHLReg .b s

/-- `LD (HL),C`. -/
def execLdAtHL_C (s : State) : Out := ldAtHLReg .c s

/-- `LD (HL),D`. -/
def execLdAtHL_D (s : State) : Out := ldAtHLReg .d s

/-- `LD (HL),E`. -/
def execLdAtHL_E (s : State) : Out := ldAtHLReg .e s

/-- `LD (HL),H`. -/
def execLdAtHL_H (s : State) : Out := ldAtHLReg .h s

/-- `LD (HL),L`. -/
def execLdAtHL_L (s : State) : Out := ldAtHLReg .l s

/-- `LD (HL),A`. -/
def execLdAtHL_A (s : State) : Out := ldAtHLReg .a s

/-- `LD A,B`. -/
def execLdA_B (s : State) : Out := ldRegReg .a .b s

/-- `LD A,C`. -/
def execLdA_C (s : State) : Out := ldRegReg .a .c s

/-- `LD A,D`. -/
def execLdA_D (s : State) : Out := ldRegReg .a .d s

/-- `LD A,E`. -/
def execLdA_E (s : State) : Out := ldRegReg .a .e s

/-- `LD A,H`. -/
def execLdA_H (s : State) : Out := ldRegReg .a .h s

/-- `LD A,L`. -/
def execLdA_L (s : State) : Out := ldRegReg .a .l s

/-- `LD A,(HL)`. -/
def execLdA_atHL (s : State) : Out := ldRegAtHL .a s

/-- `LD A,A`. -/
def execLdA_A (s : State) : Out := ldRegReg .a .a s

end Sys2Proof.Machine
end

