-- ==== Sys2Proof/Machine/MiscControl.lean ====
section
/-! DEFINITION. `NOP` and `STOP` (spec/44_misc_control R140, R141). -/

namespace Sys2Proof.Machine

/-- `NOP` (R140): one cycle and nothing else. -/
def nop (s : State) : Out := returnCost 1 s

/-- `STOP` (R141): the unimplemented-trap; the padding byte is not read. -/
def stop (s : State) : Out := raise (.unimplemented 0x10 s.opcodeAddress) s

/-- `NOP`. -/
def execNop (s : State) : Out := nop s

/-- `STOP`. -/
def execStop (s : State) : Out := stop s

end Sys2Proof.Machine
end

