-- ==== Sys2Proof/Machine/Undecoded.lean ====
section
/-! DEFINITION. The 145 opcode bytes with no handler (spec/30_encoding R79, 44_misc_control R142): each raises
`IllegalOpcode` with its own byte, and no further byte is fetched. -/

namespace Sys2Proof.Machine

/-- `raise IllegalOpcode(op, at)` (R142, R151). -/
def illegalOpcode (op : Byte) (s : State) : Out := raise (.illegalOpcode op s.opcodeAddress) s

def execUndecoded02 (s : State) : Out := illegalOpcode 0x02 s
def execUndecoded07 (s : State) : Out := illegalOpcode 0x07 s
def execUndecoded08 (s : State) : Out := illegalOpcode 0x08 s
def execUndecoded09 (s : State) : Out := illegalOpcode 0x09 s
def execUndecoded0A (s : State) : Out := illegalOpcode 0x0A s
def execUndecoded0F (s : State) : Out := illegalOpcode 0x0F s
def execUndecoded12 (s : State) : Out := illegalOpcode 0x12 s
def execUndecoded17 (s : State) : Out := illegalOpcode 0x17 s
def execUndecoded18 (s : State) : Out := illegalOpcode 0x18 s
def execUndecoded19 (s : State) : Out := illegalOpcode 0x19 s
def execUndecoded1A (s : State) : Out := illegalOpcode 0x1A s
def execUndecoded1F (s : State) : Out := illegalOpcode 0x1F s
def execUndecoded20 (s : State) : Out := illegalOpcode 0x20 s
def execUndecoded27 (s : State) : Out := illegalOpcode 0x27 s
def execUndecoded28 (s : State) : Out := illegalOpcode 0x28 s
def execUndecoded29 (s : State) : Out := illegalOpcode 0x29 s
def execUndecoded2F (s : State) : Out := illegalOpcode 0x2F s
def execUndecoded30 (s : State) : Out := illegalOpcode 0x30 s
def execUndecoded34 (s : State) : Out := illegalOpcode 0x34 s
def execUndecoded35 (s : State) : Out := illegalOpcode 0x35 s
def execUndecoded37 (s : State) : Out := illegalOpcode 0x37 s
def execUndecoded38 (s : State) : Out := illegalOpcode 0x38 s
def execUndecoded39 (s : State) : Out := illegalOpcode 0x39 s
def execUndecoded3F (s : State) : Out := illegalOpcode 0x3F s
def execUndecoded76 (s : State) : Out := illegalOpcode 0x76 s
def execUndecoded80 (s : State) : Out := illegalOpcode 0x80 s
def execUndecoded81 (s : State) : Out := illegalOpcode 0x81 s
def execUndecoded82 (s : State) : Out := illegalOpcode 0x82 s
def execUndecoded83 (s : State) : Out := illegalOpcode 0x83 s
def execUndecoded84 (s : State) : Out := illegalOpcode 0x84 s
def execUndecoded85 (s : State) : Out := illegalOpcode 0x85 s
def execUndecoded86 (s : State) : Out := illegalOpcode 0x86 s
def execUndecoded87 (s : State) : Out := illegalOpcode 0x87 s
def execUndecoded88 (s : State) : Out := illegalOpcode 0x88 s
def execUndecoded89 (s : State) : Out := illegalOpcode 0x89 s
def execUndecoded8A (s : State) : Out := illegalOpcode 0x8A s
def execUndecoded8B (s : State) : Out := illegalOpcode 0x8B s
def execUndecoded8C (s : State) : Out := illegalOpcode 0x8C s
def execUndecoded8D (s : State) : Out := illegalOpcode 0x8D s
def execUndecoded8E (s : State) : Out := illegalOpcode 0x8E s
def execUndecoded8F (s : State) : Out := illegalOpcode 0x8F s
def execUndecoded90 (s : State) : Out := illegalOpcode 0x90 s
def execUndecoded91 (s : State) : Out := illegalOpcode 0x91 s
def execUndecoded92 (s : State) : Out := illegalOpcode 0x92 s
def execUndecoded93 (s : State) : Out := illegalOpcode 0x93 s
def execUndecoded94 (s : State) : Out := illegalOpcode 0x94 s
def execUndecoded95 (s : State) : Out := illegalOpcode 0x95 s
def execUndecoded96 (s : State) : Out := illegalOpcode 0x96 s
def execUndecoded97 (s : State) : Out := illegalOpcode 0x97 s
def execUndecoded98 (s : State) : Out := illegalOpcode 0x98 s
def execUndecoded99 (s : State) : Out := illegalOpcode 0x99 s
def execUndecoded9A (s : State) : Out := illegalOpcode 0x9A s
def execUndecoded9B (s : State) : Out := illegalOpcode 0x9B s
def execUndecoded9C (s : State) : Out := illegalOpcode 0x9C s
def execUndecoded9D (s : State) : Out := illegalOpcode 0x9D s
def execUndecoded9E (s : State) : Out := illegalOpcode 0x9E s
def execUndecoded9F (s : State) : Out := illegalOpcode 0x9F s
def execUndecodedA0 (s : State) : Out := illegalOpcode 0xA0 s
def execUndecodedA1 (s : State) : Out := illegalOpcode 0xA1 s
def execUndecodedA2 (s : State) : Out := illegalOpcode 0xA2 s
def execUndecodedA3 (s : State) : Out := illegalOpcode 0xA3 s
def execUndecodedA4 (s : State) : Out := illegalOpcode 0xA4 s
def execUndecodedA5 (s : State) : Out := illegalOpcode 0xA5 s
def execUndecodedA6 (s : State) : Out := illegalOpcode 0xA6 s
def execUndecodedA7 (s : State) : Out := illegalOpcode 0xA7 s
def execUndecodedA8 (s : State) : Out := illegalOpcode 0xA8 s
def execUndecodedA9 (s : State) : Out := illegalOpcode 0xA9 s
def execUndecodedAA (s : State) : Out := illegalOpcode 0xAA s
def execUndecodedAB (s : State) : Out := illegalOpcode 0xAB s
def execUndecodedAC (s : State) : Out := illegalOpcode 0xAC s
def execUndecodedAD (s : State) : Out := illegalOpcode 0xAD s
def execUndecodedAE (s : State) : Out := illegalOpcode 0xAE s
def execUndecodedAF (s : State) : Out := illegalOpcode 0xAF s
def execUndecodedB0 (s : State) : Out := illegalOpcode 0xB0 s
def execUndecodedB1 (s : State) : Out := illegalOpcode 0xB1 s
def execUndecodedB2 (s : State) : Out := illegalOpcode 0xB2 s
def execUndecodedB3 (s : State) : Out := illegalOpcode 0xB3 s
def execUndecodedB4 (s : State) : Out := illegalOpcode 0xB4 s
def execUndecodedB5 (s : State) : Out := illegalOpcode 0xB5 s
def execUndecodedB6 (s : State) : Out := illegalOpcode 0xB6 s
def execUndecodedB7 (s : State) : Out := illegalOpcode 0xB7 s
def execUndecodedB8 (s : State) : Out := illegalOpcode 0xB8 s
def execUndecodedB9 (s : State) : Out := illegalOpcode 0xB9 s
def execUndecodedBA (s : State) : Out := illegalOpcode 0xBA s
def execUndecodedBB (s : State) : Out := illegalOpcode 0xBB s
def execUndecodedBC (s : State) : Out := illegalOpcode 0xBC s
def execUndecodedBD (s : State) : Out := illegalOpcode 0xBD s
def execUndecodedBE (s : State) : Out := illegalOpcode 0xBE s
def execUndecodedBF (s : State) : Out := illegalOpcode 0xBF s
def execUndecodedC0 (s : State) : Out := illegalOpcode 0xC0 s
def execUndecodedC2 (s : State) : Out := illegalOpcode 0xC2 s
def execUndecodedC3 (s : State) : Out := illegalOpcode 0xC3 s
def execUndecodedC4 (s : State) : Out := illegalOpcode 0xC4 s
def execUndecodedC6 (s : State) : Out := illegalOpcode 0xC6 s
def execUndecodedC7 (s : State) : Out := illegalOpcode 0xC7 s
def execUndecodedC8 (s : State) : Out := illegalOpcode 0xC8 s
def execUndecodedC9 (s : State) : Out := illegalOpcode 0xC9 s
def execUndecodedCA (s : State) : Out := illegalOpcode 0xCA s
def execUndecodedCB (s : State) : Out := illegalOpcode 0xCB s
def execUndecodedCC (s : State) : Out := illegalOpcode 0xCC s
def execUndecodedCD (s : State) : Out := illegalOpcode 0xCD s
def execUndecodedCE (s : State) : Out := illegalOpcode 0xCE s
def execUndecodedCF (s : State) : Out := illegalOpcode 0xCF s
def execUndecodedD0 (s : State) : Out := illegalOpcode 0xD0 s
def execUndecodedD2 (s : State) : Out := illegalOpcode 0xD2 s
def execUndecodedD3 (s : State) : Out := illegalOpcode 0xD3 s
def execUndecodedD4 (s : State) : Out := illegalOpcode 0xD4 s
def execUndecodedD6 (s : State) : Out := illegalOpcode 0xD6 s
def execUndecodedD7 (s : State) : Out := illegalOpcode 0xD7 s
def execUndecodedD8 (s : State) : Out := illegalOpcode 0xD8 s
def execUndecodedD9 (s : State) : Out := illegalOpcode 0xD9 s
def execUndecodedDA (s : State) : Out := illegalOpcode 0xDA s
def execUndecodedDB (s : State) : Out := illegalOpcode 0xDB s
def execUndecodedDC (s : State) : Out := illegalOpcode 0xDC s
def execUndecodedDD (s : State) : Out := illegalOpcode 0xDD s
def execUndecodedDE (s : State) : Out := illegalOpcode 0xDE s
def execUndecodedDF (s : State) : Out := illegalOpcode 0xDF s
def execUndecodedE0 (s : State) : Out := illegalOpcode 0xE0 s
def execUndecodedE2 (s : State) : Out := illegalOpcode 0xE2 s
def execUndecodedE3 (s : State) : Out := illegalOpcode 0xE3 s
def execUndecodedE4 (s : State) : Out := illegalOpcode 0xE4 s
def execUndecodedE6 (s : State) : Out := illegalOpcode 0xE6 s
def execUndecodedE7 (s : State) : Out := illegalOpcode 0xE7 s
def execUndecodedE8 (s : State) : Out := illegalOpcode 0xE8 s
def execUndecodedE9 (s : State) : Out := illegalOpcode 0xE9 s
def execUndecodedEA (s : State) : Out := illegalOpcode 0xEA s
def execUndecodedEB (s : State) : Out := illegalOpcode 0xEB s
def execUndecodedEC (s : State) : Out := illegalOpcode 0xEC s
def execUndecodedED (s : State) : Out := illegalOpcode 0xED s
def execUndecodedEE (s : State) : Out := illegalOpcode 0xEE s
def execUndecodedEF (s : State) : Out := illegalOpcode 0xEF s
def execUndecodedF0 (s : State) : Out := illegalOpcode 0xF0 s
def execUndecodedF2 (s : State) : Out := illegalOpcode 0xF2 s
def execUndecodedF3 (s : State) : Out := illegalOpcode 0xF3 s
def execUndecodedF4 (s : State) : Out := illegalOpcode 0xF4 s
def execUndecodedF6 (s : State) : Out := illegalOpcode 0xF6 s
def execUndecodedF7 (s : State) : Out := illegalOpcode 0xF7 s
def execUndecodedF8 (s : State) : Out := illegalOpcode 0xF8 s
def execUndecodedF9 (s : State) : Out := illegalOpcode 0xF9 s
def execUndecodedFA (s : State) : Out := illegalOpcode 0xFA s
def execUndecodedFB (s : State) : Out := illegalOpcode 0xFB s
def execUndecodedFC (s : State) : Out := illegalOpcode 0xFC s
def execUndecodedFD (s : State) : Out := illegalOpcode 0xFD s
def execUndecodedFE (s : State) : Out := illegalOpcode 0xFE s
def execUndecodedFF (s : State) : Out := illegalOpcode 0xFF s

end Sys2Proof.Machine
end

