-- ==== Sys2Proof/Machine/Dispatch.lean ====
section
/-! DEFINITION. The dispatch of 40_step_dispatch R93, at the handler level of R94: on entry the opcode byte has been
fetched, so `pc` is the address of the byte after it. -/

namespace Sys2Proof.Machine

def exec (i : Instr) (s : State) : Host.Outcome State Fault Refusal :=
  match i with
  | .nop => Sys2Proof.Machine.execNop s
  | .ldBC_d16 d16 => Sys2Proof.Machine.execLdBC_d16 d16 s
  | .undecoded02 => Sys2Proof.Machine.execUndecoded02 s
  | .incBC => Sys2Proof.Machine.execIncBC s
  | .incB => Sys2Proof.Machine.execIncB s
  | .decB => Sys2Proof.Machine.execDecB s
  | .ldB_d8 d8 => Sys2Proof.Machine.execLdB_d8 d8 s
  | .undecoded07 => Sys2Proof.Machine.execUndecoded07 s
  | .undecoded08 => Sys2Proof.Machine.execUndecoded08 s
  | .undecoded09 => Sys2Proof.Machine.execUndecoded09 s
  | .undecoded0A => Sys2Proof.Machine.execUndecoded0A s
  | .decBC => Sys2Proof.Machine.execDecBC s
  | .incC => Sys2Proof.Machine.execIncC s
  | .decC => Sys2Proof.Machine.execDecC s
  | .ldC_d8 d8 => Sys2Proof.Machine.execLdC_d8 d8 s
  | .undecoded0F => Sys2Proof.Machine.execUndecoded0F s
  | .stop => Sys2Proof.Machine.execStop s
  | .ldDE_d16 d16 => Sys2Proof.Machine.execLdDE_d16 d16 s
  | .undecoded12 => Sys2Proof.Machine.execUndecoded12 s
  | .incDE => Sys2Proof.Machine.execIncDE s
  | .incD => Sys2Proof.Machine.execIncD s
  | .decD => Sys2Proof.Machine.execDecD s
  | .ldD_d8 d8 => Sys2Proof.Machine.execLdD_d8 d8 s
  | .undecoded17 => Sys2Proof.Machine.execUndecoded17 s
  | .undecoded18 => Sys2Proof.Machine.execUndecoded18 s
  | .undecoded19 => Sys2Proof.Machine.execUndecoded19 s
  | .undecoded1A => Sys2Proof.Machine.execUndecoded1A s
  | .decDE => Sys2Proof.Machine.execDecDE s
  | .incE => Sys2Proof.Machine.execIncE s
  | .decE => Sys2Proof.Machine.execDecE s
  | .ldE_d8 d8 => Sys2Proof.Machine.execLdE_d8 d8 s
  | .undecoded1F => Sys2Proof.Machine.execUndecoded1F s
  | .undecoded20 => Sys2Proof.Machine.execUndecoded20 s
  | .ldHL_d16 d16 => Sys2Proof.Machine.execLdHL_d16 d16 s
  | .ldAtHLInc_A => Sys2Proof.Machine.execLdAtHLInc_A s
  | .incHL => Sys2Proof.Machine.execIncHL s
  | .incH => Sys2Proof.Machine.execIncH s
  | .decH => Sys2Proof.Machine.execDecH s
  | .ldH_d8 d8 => Sys2Proof.Machine.execLdH_d8 d8 s
  | .undecoded27 => Sys2Proof.Machine.execUndecoded27 s
  | .undecoded28 => Sys2Proof.Machine.execUndecoded28 s
  | .undecoded29 => Sys2Proof.Machine.execUndecoded29 s
  | .ldA_atHLInc => Sys2Proof.Machine.execLdA_atHLInc s
  | .decHL => Sys2Proof.Machine.execDecHL s
  | .incL => Sys2Proof.Machine.execIncL s
  | .decL => Sys2Proof.Machine.execDecL s
  | .ldL_d8 d8 => Sys2Proof.Machine.execLdL_d8 d8 s
  | .undecoded2F => Sys2Proof.Machine.execUndecoded2F s
  | .undecoded30 => Sys2Proof.Machine.execUndecoded30 s
  | .ldSP_d16 d16 => Sys2Proof.Machine.execLdSP_d16 d16 s
  | .ldAtHLDec_A => Sys2Proof.Machine.execLdAtHLDec_A s
  | .incSP => Sys2Proof.Machine.execIncSP s
  | .undecoded34 => Sys2Proof.Machine.execUndecoded34 s
  | .undecoded35 => Sys2Proof.Machine.execUndecoded35 s
  | .ldAtHL_d8 d8 => Sys2Proof.Machine.execLdAtHL_d8 d8 s
  | .undecoded37 => Sys2Proof.Machine.execUndecoded37 s
  | .undecoded38 => Sys2Proof.Machine.execUndecoded38 s
  | .undecoded39 => Sys2Proof.Machine.execUndecoded39 s
  | .ldA_atHLDec => Sys2Proof.Machine.execLdA_atHLDec s
  | .decSP => Sys2Proof.Machine.execDecSP s
  | .incA => Sys2Proof.Machine.execIncA s
  | .decA => Sys2Proof.Machine.execDecA s
  | .ldA_d8 d8 => Sys2Proof.Machine.execLdA_d8 d8 s
  | .undecoded3F => Sys2Proof.Machine.execUndecoded3F s
  | .ldB_B => Sys2Proof.Machine.execLdB_B s
  | .ldB_C => Sys2Proof.Machine.execLdB_C s
  | .ldB_D => Sys2Proof.Machine.execLdB_D s
  | .ldB_E => Sys2Proof.Machine.execLdB_E s
  | .ldB_H => Sys2Proof.Machine.execLdB_H s
  | .ldB_L => Sys2Proof.Machine.execLdB_L s
  | .ldB_atHL => Sys2Proof.Machine.execLdB_atHL s
  | .ldB_A => Sys2Proof.Machine.execLdB_A s
  | .ldC_B => Sys2Proof.Machine.execLdC_B s
  | .ldC_C => Sys2Proof.Machine.execLdC_C s
  | .ldC_D => Sys2Proof.Machine.execLdC_D s
  | .ldC_E => Sys2Proof.Machine.execLdC_E s
  | .ldC_H => Sys2Proof.Machine.execLdC_H s
  | .ldC_L => Sys2Proof.Machine.execLdC_L s
  | .ldC_atHL => Sys2Proof.Machine.execLdC_atHL s
  | .ldC_A => Sys2Proof.Machine.execLdC_A s
  | .ldD_B => Sys2Proof.Machine.execLdD_B s
  | .ldD_C => Sys2Proof.Machine.execLdD_C s
  | .ldD_D => Sys2Proof.Machine.execLdD_D s
  | .ldD_E => Sys2Proof.Machine.execLdD_E s
  | .ldD_H => Sys2Proof.Machine.execLdD_H s
  | .ldD_L => Sys2Proof.Machine.execLdD_L s
  | .ldD_atHL => Sys2Proof.Machine.execLdD_atHL s
  | .ldD_A => Sys2Proof.Machine.execLdD_A s
  | .ldE_B => Sys2Proof.Machine.execLdE_B s
  | .ldE_C => Sys2Proof.Machine.execLdE_C s
  | .ldE_D => Sys2Proof.Machine.execLdE_D s
  | .ldE_E => Sys2Proof.Machine.execLdE_E s
  | .ldE_H => Sys2Proof.Machine.execLdE_H s
  | .ldE_L => Sys2Proof.Machine.execLdE_L s
  | .ldE_atHL => Sys2Proof.Machine.execLdE_atHL s
  | .ldE_A => Sys2Proof.Machine.execLdE_A s
  | .ldH_B => Sys2Proof.Machine.execLdH_B s
  | .ldH_C => Sys2Proof.Machine.execLdH_C s
  | .ldH_D => Sys2Proof.Machine.execLdH_D s
  | .ldH_E => Sys2Proof.Machine.execLdH_E s
  | .ldH_H => Sys2Proof.Machine.execLdH_H s
  | .ldH_L => Sys2Proof.Machine.execLdH_L s
  | .ldH_atHL => Sys2Proof.Machine.execLdH_atHL s
  | .ldH_A => Sys2Proof.Machine.execLdH_A s
  | .ldL_B => Sys2Proof.Machine.execLdL_B s
  | .ldL_C => Sys2Proof.Machine.execLdL_C s
  | .ldL_D => Sys2Proof.Machine.execLdL_D s
  | .ldL_E => Sys2Proof.Machine.execLdL_E s
  | .ldL_H => Sys2Proof.Machine.execLdL_H s
  | .ldL_L => Sys2Proof.Machine.execLdL_L s
  | .ldL_atHL => Sys2Proof.Machine.execLdL_atHL s
  | .ldL_A => Sys2Proof.Machine.execLdL_A s
  | .ldAtHL_B => Sys2Proof.Machine.execLdAtHL_B s
  | .ldAtHL_C => Sys2Proof.Machine.execLdAtHL_C s
  | .ldAtHL_D => Sys2Proof.Machine.execLdAtHL_D s
  | .ldAtHL_E => Sys2Proof.Machine.execLdAtHL_E s
  | .ldAtHL_H => Sys2Proof.Machine.execLdAtHL_H s
  | .ldAtHL_L => Sys2Proof.Machine.execLdAtHL_L s
  | .undecoded76 => Sys2Proof.Machine.execUndecoded76 s
  | .ldAtHL_A => Sys2Proof.Machine.execLdAtHL_A s
  | .ldA_B => Sys2Proof.Machine.execLdA_B s
  | .ldA_C => Sys2Proof.Machine.execLdA_C s
  | .ldA_D => Sys2Proof.Machine.execLdA_D s
  | .ldA_E => Sys2Proof.Machine.execLdA_E s
  | .ldA_H => Sys2Proof.Machine.execLdA_H s
  | .ldA_L => Sys2Proof.Machine.execLdA_L s
  | .ldA_atHL => Sys2Proof.Machine.execLdA_atHL s
  | .ldA_A => Sys2Proof.Machine.execLdA_A s
  | .undecoded80 => Sys2Proof.Machine.execUndecoded80 s
  | .undecoded81 => Sys2Proof.Machine.execUndecoded81 s
  | .undecoded82 => Sys2Proof.Machine.execUndecoded82 s
  | .undecoded83 => Sys2Proof.Machine.execUndecoded83 s
  | .undecoded84 => Sys2Proof.Machine.execUndecoded84 s
  | .undecoded85 => Sys2Proof.Machine.execUndecoded85 s
  | .undecoded86 => Sys2Proof.Machine.execUndecoded86 s
  | .undecoded87 => Sys2Proof.Machine.execUndecoded87 s
  | .undecoded88 => Sys2Proof.Machine.execUndecoded88 s
  | .undecoded89 => Sys2Proof.Machine.execUndecoded89 s
  | .undecoded8A => Sys2Proof.Machine.execUndecoded8A s
  | .undecoded8B => Sys2Proof.Machine.execUndecoded8B s
  | .undecoded8C => Sys2Proof.Machine.execUndecoded8C s
  | .undecoded8D => Sys2Proof.Machine.execUndecoded8D s
  | .undecoded8E => Sys2Proof.Machine.execUndecoded8E s
  | .undecoded8F => Sys2Proof.Machine.execUndecoded8F s
  | .undecoded90 => Sys2Proof.Machine.execUndecoded90 s
  | .undecoded91 => Sys2Proof.Machine.execUndecoded91 s
  | .undecoded92 => Sys2Proof.Machine.execUndecoded92 s
  | .undecoded93 => Sys2Proof.Machine.execUndecoded93 s
  | .undecoded94 => Sys2Proof.Machine.execUndecoded94 s
  | .undecoded95 => Sys2Proof.Machine.execUndecoded95 s
  | .undecoded96 => Sys2Proof.Machine.execUndecoded96 s
  | .undecoded97 => Sys2Proof.Machine.execUndecoded97 s
  | .undecoded98 => Sys2Proof.Machine.execUndecoded98 s
  | .undecoded99 => Sys2Proof.Machine.execUndecoded99 s
  | .undecoded9A => Sys2Proof.Machine.execUndecoded9A s
  | .undecoded9B => Sys2Proof.Machine.execUndecoded9B s
  | .undecoded9C => Sys2Proof.Machine.execUndecoded9C s
  | .undecoded9D => Sys2Proof.Machine.execUndecoded9D s
  | .undecoded9E => Sys2Proof.Machine.execUndecoded9E s
  | .undecoded9F => Sys2Proof.Machine.execUndecoded9F s
  | .undecodedA0 => Sys2Proof.Machine.execUndecodedA0 s
  | .undecodedA1 => Sys2Proof.Machine.execUndecodedA1 s
  | .undecodedA2 => Sys2Proof.Machine.execUndecodedA2 s
  | .undecodedA3 => Sys2Proof.Machine.execUndecodedA3 s
  | .undecodedA4 => Sys2Proof.Machine.execUndecodedA4 s
  | .undecodedA5 => Sys2Proof.Machine.execUndecodedA5 s
  | .undecodedA6 => Sys2Proof.Machine.execUndecodedA6 s
  | .undecodedA7 => Sys2Proof.Machine.execUndecodedA7 s
  | .undecodedA8 => Sys2Proof.Machine.execUndecodedA8 s
  | .undecodedA9 => Sys2Proof.Machine.execUndecodedA9 s
  | .undecodedAA => Sys2Proof.Machine.execUndecodedAA s
  | .undecodedAB => Sys2Proof.Machine.execUndecodedAB s
  | .undecodedAC => Sys2Proof.Machine.execUndecodedAC s
  | .undecodedAD => Sys2Proof.Machine.execUndecodedAD s
  | .undecodedAE => Sys2Proof.Machine.execUndecodedAE s
  | .undecodedAF => Sys2Proof.Machine.execUndecodedAF s
  | .undecodedB0 => Sys2Proof.Machine.execUndecodedB0 s
  | .undecodedB1 => Sys2Proof.Machine.execUndecodedB1 s
  | .undecodedB2 => Sys2Proof.Machine.execUndecodedB2 s
  | .undecodedB3 => Sys2Proof.Machine.execUndecodedB3 s
  | .undecodedB4 => Sys2Proof.Machine.execUndecodedB4 s
  | .undecodedB5 => Sys2Proof.Machine.execUndecodedB5 s
  | .undecodedB6 => Sys2Proof.Machine.execUndecodedB6 s
  | .undecodedB7 => Sys2Proof.Machine.execUndecodedB7 s
  | .undecodedB8 => Sys2Proof.Machine.execUndecodedB8 s
  | .undecodedB9 => Sys2Proof.Machine.execUndecodedB9 s
  | .undecodedBA => Sys2Proof.Machine.execUndecodedBA s
  | .undecodedBB => Sys2Proof.Machine.execUndecodedBB s
  | .undecodedBC => Sys2Proof.Machine.execUndecodedBC s
  | .undecodedBD => Sys2Proof.Machine.execUndecodedBD s
  | .undecodedBE => Sys2Proof.Machine.execUndecodedBE s
  | .undecodedBF => Sys2Proof.Machine.execUndecodedBF s
  | .undecodedC0 => Sys2Proof.Machine.execUndecodedC0 s
  | .popBC => Sys2Proof.Machine.execPopBC s
  | .undecodedC2 => Sys2Proof.Machine.execUndecodedC2 s
  | .undecodedC3 => Sys2Proof.Machine.execUndecodedC3 s
  | .undecodedC4 => Sys2Proof.Machine.execUndecodedC4 s
  | .pushBC => Sys2Proof.Machine.execPushBC s
  | .undecodedC6 => Sys2Proof.Machine.execUndecodedC6 s
  | .undecodedC7 => Sys2Proof.Machine.execUndecodedC7 s
  | .undecodedC8 => Sys2Proof.Machine.execUndecodedC8 s
  | .undecodedC9 => Sys2Proof.Machine.execUndecodedC9 s
  | .undecodedCA => Sys2Proof.Machine.execUndecodedCA s
  | .undecodedCB => Sys2Proof.Machine.execUndecodedCB s
  | .undecodedCC => Sys2Proof.Machine.execUndecodedCC s
  | .undecodedCD => Sys2Proof.Machine.execUndecodedCD s
  | .undecodedCE => Sys2Proof.Machine.execUndecodedCE s
  | .undecodedCF => Sys2Proof.Machine.execUndecodedCF s
  | .undecodedD0 => Sys2Proof.Machine.execUndecodedD0 s
  | .popDE => Sys2Proof.Machine.execPopDE s
  | .undecodedD2 => Sys2Proof.Machine.execUndecodedD2 s
  | .undecodedD3 => Sys2Proof.Machine.execUndecodedD3 s
  | .undecodedD4 => Sys2Proof.Machine.execUndecodedD4 s
  | .pushDE => Sys2Proof.Machine.execPushDE s
  | .undecodedD6 => Sys2Proof.Machine.execUndecodedD6 s
  | .undecodedD7 => Sys2Proof.Machine.execUndecodedD7 s
  | .undecodedD8 => Sys2Proof.Machine.execUndecodedD8 s
  | .undecodedD9 => Sys2Proof.Machine.execUndecodedD9 s
  | .undecodedDA => Sys2Proof.Machine.execUndecodedDA s
  | .undecodedDB => Sys2Proof.Machine.execUndecodedDB s
  | .undecodedDC => Sys2Proof.Machine.execUndecodedDC s
  | .undecodedDD => Sys2Proof.Machine.execUndecodedDD s
  | .undecodedDE => Sys2Proof.Machine.execUndecodedDE s
  | .undecodedDF => Sys2Proof.Machine.execUndecodedDF s
  | .undecodedE0 => Sys2Proof.Machine.execUndecodedE0 s
  | .popHL => Sys2Proof.Machine.execPopHL s
  | .undecodedE2 => Sys2Proof.Machine.execUndecodedE2 s
  | .undecodedE3 => Sys2Proof.Machine.execUndecodedE3 s
  | .undecodedE4 => Sys2Proof.Machine.execUndecodedE4 s
  | .pushHL => Sys2Proof.Machine.execPushHL s
  | .undecodedE6 => Sys2Proof.Machine.execUndecodedE6 s
  | .undecodedE7 => Sys2Proof.Machine.execUndecodedE7 s
  | .undecodedE8 => Sys2Proof.Machine.execUndecodedE8 s
  | .undecodedE9 => Sys2Proof.Machine.execUndecodedE9 s
  | .undecodedEA => Sys2Proof.Machine.execUndecodedEA s
  | .undecodedEB => Sys2Proof.Machine.execUndecodedEB s
  | .undecodedEC => Sys2Proof.Machine.execUndecodedEC s
  | .undecodedED => Sys2Proof.Machine.execUndecodedED s
  | .undecodedEE => Sys2Proof.Machine.execUndecodedEE s
  | .undecodedEF => Sys2Proof.Machine.execUndecodedEF s
  | .undecodedF0 => Sys2Proof.Machine.execUndecodedF0 s
  | .popAF => Sys2Proof.Machine.execPopAF s
  | .undecodedF2 => Sys2Proof.Machine.execUndecodedF2 s
  | .undecodedF3 => Sys2Proof.Machine.execUndecodedF3 s
  | .undecodedF4 => Sys2Proof.Machine.execUndecodedF4 s
  | .pushAF => Sys2Proof.Machine.execPushAF s
  | .undecodedF6 => Sys2Proof.Machine.execUndecodedF6 s
  | .undecodedF7 => Sys2Proof.Machine.execUndecodedF7 s
  | .undecodedF8 => Sys2Proof.Machine.execUndecodedF8 s
  | .undecodedF9 => Sys2Proof.Machine.execUndecodedF9 s
  | .undecodedFA => Sys2Proof.Machine.execUndecodedFA s
  | .undecodedFB => Sys2Proof.Machine.execUndecodedFB s
  | .undecodedFC => Sys2Proof.Machine.execUndecodedFC s
  | .undecodedFD => Sys2Proof.Machine.execUndecodedFD s
  | .undecodedFE => Sys2Proof.Machine.execUndecodedFE s
  | .undecodedFF => Sys2Proof.Machine.execUndecodedFF s

end Sys2Proof.Machine
end

