-- ==== Sys2Proof/Decode.lean ====
section
/-! DEFINITION. Decoding and encoding (spec/30_encoding). The decoder reads the 256-entry map of R78, row by row; the
encoder is written from the bit patterns of R77 and the codes of R70 and R71. Every byte value and every code is the
spec's own `OPCODE_MAP`, PRESUMED (D25, log 3). -/

namespace Sys2Proof

/-- The destination of an 8-bit immediate load: a register (R103) or `(HL)` (R104). -/
inductive ImmDst where
  | reg (r : Reg8)
  | atHL
deriving DecidableEq, Repr

/-- One entry of the opcode map: a one-byte instruction, or one that an 8-bit or a 16-bit immediate follows (the formats
`OP`, `OP_D8`, `OP_D16` of R73). -/
inductive Entry where
  | op (i : Instr)
  | opD8 (dst : ImmDst)
  | opD16 (dst : Pair)
deriving DecidableEq, Repr

/-- How many immediate bytes follow the opcode byte (R72). -/
def Entry.immediates : Entry → Nat
  | .op _ => 0
  | .opD8 _ => 1
  | .opD16 _ => 2

/-- The instruction of format `OP_D8` (R73, R74). -/
def instrD8 : ImmDst → Byte → Instr
  | .reg .b, d8 => .ldB_d8 d8
  | .reg .c, d8 => .ldC_d8 d8
  | .reg .d, d8 => .ldD_d8 d8
  | .reg .e, d8 => .ldE_d8 d8
  | .reg .h, d8 => .ldH_d8 d8
  | .reg .l, d8 => .ldL_d8 d8
  | .atHL, d8 => .ldAtHL_d8 d8
  | .reg .a, d8 => .ldA_d8 d8

/-- The instruction of format `OP_D16` (R73, R75). -/
def instrD16 : Pair → Word → Instr
  | .bc, d16 => .ldBC_d16 d16
  | .de, d16 => .ldDE_d16 d16
  | .hl, d16 => .ldHL_d16 d16
  | .sp, d16 => .ldSP_d16 d16

/-- Row 0x of R78. -/
def opcodeRow0 : List Entry :=
  [.op .nop, .opD16 .bc, .op .undecoded02, .op .incBC,
   .op .incB, .op .decB, .opD8 (.reg .b), .op .undecoded07,
   .op .undecoded08, .op .undecoded09, .op .undecoded0A, .op .decBC,
   .op .incC, .op .decC, .opD8 (.reg .c), .op .undecoded0F]

/-- Row 1x of R78. -/
def opcodeRow1 : List Entry :=
  [.op .stop, .opD16 .de, .op .undecoded12, .op .incDE,
   .op .incD, .op .decD, .opD8 (.reg .d), .op .undecoded17,
   .op .undecoded18, .op .undecoded19, .op .undecoded1A, .op .decDE,
   .op .incE, .op .decE, .opD8 (.reg .e), .op .undecoded1F]

/-- Row 2x of R78. -/
def opcodeRow2 : List Entry :=
  [.op .undecoded20, .opD16 .hl, .op .ldAtHLInc_A, .op .incHL,
   .op .incH, .op .decH, .opD8 (.reg .h), .op .undecoded27,
   .op .undecoded28, .op .undecoded29, .op .ldA_atHLInc, .op .decHL,
   .op .incL, .op .decL, .opD8 (.reg .l), .op .undecoded2F]

/-- Row 3x of R78. -/
def opcodeRow3 : List Entry :=
  [.op .undecoded30, .opD16 .sp, .op .ldAtHLDec_A, .op .incSP,
   .op .undecoded34, .op .undecoded35, .opD8 .atHL, .op .undecoded37,
   .op .undecoded38, .op .undecoded39, .op .ldA_atHLDec, .op .decSP,
   .op .incA, .op .decA, .opD8 (.reg .a), .op .undecoded3F]

/-- Row 4x of R78. -/
def opcodeRow4 : List Entry :=
  [.op .ldB_B, .op .ldB_C, .op .ldB_D, .op .ldB_E,
   .op .ldB_H, .op .ldB_L, .op .ldB_atHL, .op .ldB_A,
   .op .ldC_B, .op .ldC_C, .op .ldC_D, .op .ldC_E,
   .op .ldC_H, .op .ldC_L, .op .ldC_atHL, .op .ldC_A]

/-- Row 5x of R78. -/
def opcodeRow5 : List Entry :=
  [.op .ldD_B, .op .ldD_C, .op .ldD_D, .op .ldD_E,
   .op .ldD_H, .op .ldD_L, .op .ldD_atHL, .op .ldD_A,
   .op .ldE_B, .op .ldE_C, .op .ldE_D, .op .ldE_E,
   .op .ldE_H, .op .ldE_L, .op .ldE_atHL, .op .ldE_A]

/-- Row 6x of R78. -/
def opcodeRow6 : List Entry :=
  [.op .ldH_B, .op .ldH_C, .op .ldH_D, .op .ldH_E,
   .op .ldH_H, .op .ldH_L, .op .ldH_atHL, .op .ldH_A,
   .op .ldL_B, .op .ldL_C, .op .ldL_D, .op .ldL_E,
   .op .ldL_H, .op .ldL_L, .op .ldL_atHL, .op .ldL_A]

/-- Row 7x of R78. -/
def opcodeRow7 : List Entry :=
  [.op .ldAtHL_B, .op .ldAtHL_C, .op .ldAtHL_D, .op .ldAtHL_E,
   .op .ldAtHL_H, .op .ldAtHL_L, .op .undecoded76, .op .ldAtHL_A,
   .op .ldA_B, .op .ldA_C, .op .ldA_D, .op .ldA_E,
   .op .ldA_H, .op .ldA_L, .op .ldA_atHL, .op .ldA_A]

/-- Row 8x of R78. -/
def opcodeRow8 : List Entry :=
  [.op .undecoded80, .op .undecoded81, .op .undecoded82, .op .undecoded83,
   .op .undecoded84, .op .undecoded85, .op .undecoded86, .op .undecoded87,
   .op .undecoded88, .op .undecoded89, .op .undecoded8A, .op .undecoded8B,
   .op .undecoded8C, .op .undecoded8D, .op .undecoded8E, .op .undecoded8F]

/-- Row 9x of R78. -/
def opcodeRow9 : List Entry :=
  [.op .undecoded90, .op .undecoded91, .op .undecoded92, .op .undecoded93,
   .op .undecoded94, .op .undecoded95, .op .undecoded96, .op .undecoded97,
   .op .undecoded98, .op .undecoded99, .op .undecoded9A, .op .undecoded9B,
   .op .undecoded9C, .op .undecoded9D, .op .undecoded9E, .op .undecoded9F]

/-- Row Ax of R78. -/
def opcodeRowA : List Entry :=
  [.op .undecodedA0, .op .undecodedA1, .op .undecodedA2, .op .undecodedA3,
   .op .undecodedA4, .op .undecodedA5, .op .undecodedA6, .op .undecodedA7,
   .op .undecodedA8, .op .undecodedA9, .op .undecodedAA, .op .undecodedAB,
   .op .undecodedAC, .op .undecodedAD, .op .undecodedAE, .op .undecodedAF]

/-- Row Bx of R78. -/
def opcodeRowB : List Entry :=
  [.op .undecodedB0, .op .undecodedB1, .op .undecodedB2, .op .undecodedB3,
   .op .undecodedB4, .op .undecodedB5, .op .undecodedB6, .op .undecodedB7,
   .op .undecodedB8, .op .undecodedB9, .op .undecodedBA, .op .undecodedBB,
   .op .undecodedBC, .op .undecodedBD, .op .undecodedBE, .op .undecodedBF]

/-- Row Cx of R78. -/
def opcodeRowC : List Entry :=
  [.op .undecodedC0, .op .popBC, .op .undecodedC2, .op .undecodedC3,
   .op .undecodedC4, .op .pushBC, .op .undecodedC6, .op .undecodedC7,
   .op .undecodedC8, .op .undecodedC9, .op .undecodedCA, .op .undecodedCB,
   .op .undecodedCC, .op .undecodedCD, .op .undecodedCE, .op .undecodedCF]

/-- Row Dx of R78. -/
def opcodeRowD : List Entry :=
  [.op .undecodedD0, .op .popDE, .op .undecodedD2, .op .undecodedD3,
   .op .undecodedD4, .op .pushDE, .op .undecodedD6, .op .undecodedD7,
   .op .undecodedD8, .op .undecodedD9, .op .undecodedDA, .op .undecodedDB,
   .op .undecodedDC, .op .undecodedDD, .op .undecodedDE, .op .undecodedDF]

/-- Row Ex of R78. -/
def opcodeRowE : List Entry :=
  [.op .undecodedE0, .op .popHL, .op .undecodedE2, .op .undecodedE3,
   .op .undecodedE4, .op .pushHL, .op .undecodedE6, .op .undecodedE7,
   .op .undecodedE8, .op .undecodedE9, .op .undecodedEA, .op .undecodedEB,
   .op .undecodedEC, .op .undecodedED, .op .undecodedEE, .op .undecodedEF]

/-- Row Fx of R78. -/
def opcodeRowF : List Entry :=
  [.op .undecodedF0, .op .popAF, .op .undecodedF2, .op .undecodedF3,
   .op .undecodedF4, .op .pushAF, .op .undecodedF6, .op .undecodedF7,
   .op .undecodedF8, .op .undecodedF9, .op .undecodedFA, .op .undecodedFB,
   .op .undecodedFC, .op .undecodedFD, .op .undecodedFE, .op .undecodedFF]

/-- The whole map of R78: row `op[7:4]`, column `op[3:0]`. -/
def opcodeMap : List (List Entry) :=
  [opcodeRow0, opcodeRow1, opcodeRow2, opcodeRow3, opcodeRow4, opcodeRow5, opcodeRow6, opcodeRow7,
   opcodeRow8, opcodeRow9, opcodeRowA, opcodeRowB, opcodeRowC, opcodeRowD, opcodeRowE, opcodeRowF]

/-- The entry an opcode byte selects (40_step_dispatch R93). No byte is without one (`opcodeEntry_total` of
Laws/Decode.lean). -/
def opcodeEntry (op : Byte) : Option Entry :=
  match opcodeMap[op.toNat / 16]? with
  | some row => row[op.toNat % 16]?
  | none => none

/-- Why bytes are no instruction. -/
inductive DecodeError where
  /-- No byte was given. -/
  | noOpcode
  /-- The map has no entry for the byte (this never happens). -/
  | noEntry (op : Byte)
  /-- The bytes end before the last immediate byte of this opcode. -/
  | missingImmediate (op : Byte)
deriving DecidableEq, Repr

/-- What the decoder answers: an instruction and the bytes after it, or a rejection by name. -/
inductive Decoded where
  | instr (i : Instr) (rest : List Byte)
  | reject (e : DecodeError)
deriving DecidableEq, Repr

/-- The instruction at the head of the bytes (R72 to R75); a 16-bit immediate is low byte first (R75). -/
def decode : List Byte → Decoded
  | [] => .reject .noOpcode
  | op :: bytes =>
    match opcodeEntry op, bytes with
    | none, _ => .reject (.noEntry op)
    | some (.op i), rest => .instr i rest
    | some (.opD8 dst), d8 :: rest => .instr (instrD8 dst d8) rest
    | some (.opD16 dst), lo :: hi :: rest => .instr (instrD16 dst (joinBytes hi lo)) rest
    | some (.opD8 _), [] | some (.opD16 _), [] | some (.opD16 _), [_] => .reject (.missingImmediate op)

/-- The three bytes of a number laid out as opcode_table.json numbers bits: the first byte is the least significant. -/
def tableBytes (nbits w : Nat) : List Byte :=
  let v := w % 2 ^ nbits
  [BitVec.ofNat 8 v, BitVec.ofNat 8 (v / 256), BitVec.ofNat 8 (v / 65536)]

/-- The instruction the decoder reads from `w`, numbered as opcode_table.json numbers bits, the bits above `nbits` zero. -/
def decodeTableWord (nbits w : Nat) : Option Instr :=
  match decode (tableBytes nbits w) with
  | .instr i _ => some i
  | .reject _ => none

/-- The 3-bit register code (R70); 0b110 is `(HL)`. -/
def Reg8.code : Reg8 → BitVec 3
  | .b => 0b000
  | .c => 0b001
  | .d => 0b010
  | .e => 0b011
  | .h => 0b100
  | .l => 0b101
  | .a => 0b111

/-- The 2-bit pair code (R71). -/
def Pair.code : Pair → BitVec 2
  | .bc => 0b00
  | .de => 0b01
  | .hl => 0b10
  | .sp => 0b11

/-- The 2-bit pair code of the stack group (R71). -/
def StackPair.code : StackPair → BitVec 2
  | .bc => 0b00
  | .de => 0b01
  | .hl => 0b10
  | .af => 0b11

/-- Byte 0 (R77). -/
def Form.opcode : Form → Byte
  | .nop => 0b00000000
  | .stop => 0b00010000
  | .ldPairImm dst _ => 0b00#2 ++ dst.code ++ 0b0001#4
  | .incPair rr => 0b00#2 ++ rr.code ++ 0b0011#4
  | .decPair rr => 0b00#2 ++ rr.code ++ 0b1011#4
  | .incReg r => 0b00#2 ++ r.code ++ 0b100#3
  | .decReg r => 0b00#2 ++ r.code ++ 0b101#3
  | .ldRegImm dst _ => 0b00#2 ++ dst.code ++ 0b110#3
  | .ldAtHLImm _ => 0b00110110
  | .ldAtHLIncA => 0b00100010
  | .ldAtHLDecA => 0b00110010
  | .ldAAtHLInc => 0b00101010
  | .ldAAtHLDec => 0b00111010
  | .ldRegReg dst src => 0b01#2 ++ dst.code ++ src.code
  | .ldRegAtHL dst => 0b01#2 ++ dst.code ++ 0b110#3
  | .ldAtHLReg src => 0b01110#5 ++ src.code
  | .pop dst => 0b11#2 ++ dst.code ++ 0b0001#4
  | .push src => 0b11#2 ++ src.code ++ 0b0101#4
  | .undecoded op => op

/-- The bytes after byte 0 (R73): `d8`, or `d16[7:0]` then `d16[15:8]`. -/
def Form.immediateBytes : Form → List Byte
  | .ldRegImm _ d8 | .ldAtHLImm d8 => [d8]
  | .ldPairImm _ d16 => [getLow d16, getHigh d16]
  | .nop | .stop | .ldRegReg _ _ | .ldRegAtHL _ | .ldAtHLReg _ | .ldAtHLIncA | .ldAtHLDecA | .ldAAtHLInc
  | .ldAAtHLDec | .push _ | .pop _ | .incReg _ | .decReg _ | .incPair _ | .decPair _ | .undecoded _ => []

/-- The bytes of an instruction, in rising addresses (R73). -/
def encode (i : Instr) : List Byte := i.form.opcode :: i.form.immediateBytes

/-- How many bytes an instruction takes: 1, 2 or 3 (R72; 1 for `STOP` and an undecoded byte, R80, R142). -/
def Instr.length (i : Instr) : Nat := (encode i).length

end Sys2Proof
end

