-- ==== Sys2Proof/Machine/Fetch.lean ====
section
/-! DEFINITION. Fetching an instruction's bytes (spec/40_step_dispatch R90 to R92), and placing them where they are fetched
from. -/

namespace Sys2Proof.Machine

/-- What the fetch of a Step comes to. -/
inductive Fetched where
  /-- The instruction, and the state in which its handler runs: the opcode byte fetched, no immediate yet (R94). -/
  | handler (i : Instr) (s : State)
  /-- A fetch raised: the state at the fault (60_exceptions R156). -/
  | raised (s : State)
deriving DecidableEq, Repr

/-- The immediate byte of `LD r,d8` and `LD (HL),d8`. If its fetch raises, `pc` still holds its address and nothing else
has changed (41_load_8bit R103, R104; R91). `s` is the state after the opcode fetch. -/
def fetchD8 (dst : ImmDst) (s : State) : Fetched :=
  match memRead s s.pc with
  | some d8 => .handler (instrD8 dst d8) s
  | none => .raised (takeFault (.undecodedAddress s.pc .read) s)

/-- The two immediate bytes of `LD rr,d16`, low byte first. If the second fetch raises, the low half of the pair has been
written (42_load16_stack R120). `s` is the state after the opcode fetch; register writes do not change what memory reads
as. -/
def fetchD16 (dst : Pair) (s : State) : Fetched :=
  match memRead s s.pc with
  | none => .raised (takeFault (.undecodedAddress s.pc .read) s)
  | some lo =>
    let s1 := s.loadLowHalf dst lo
    match memRead s1 s1.pc with
    | none => .raised (takeFault (.undecodedAddress s1.pc .read) s1)
    | some hi => .handler (instrD16 dst (joinBytes hi lo)) s

/-- The opcode fetch and the selection of the handler (R90, R91, R93), with the handler's own immediates read ahead
(log 15). A byte without an entry raises `IllegalOpcode` (30_encoding R79); every byte has one. -/
def fetchInstr (s : State) : Fetched :=
  match memRead s s.pc with
  | none => .raised (takeFault (.undecodedAddress s.pc .read) s)
  | some op =>
    match opcodeEntry op with
    | some (.op i) => .handler i s.advancePc
    | some (.opD8 dst) => fetchD8 dst s.advancePc
    | some (.opD16 dst) => fetchD16 dst s.advancePc
    | none => .raised (takeFault (.illegalOpcode op s.pc) s.advancePc)

/-- The bytes at `a`, `a + 1`, ... (30_encoding R73), if each of them decodes for a read. -/
def readBytes (s : State) (a : Word) : Nat → Option (List Byte)
  | 0 => some []
  | n + 1 =>
    match memRead s a, readBytes s (a + 1) n with
    | some b, some bs => some (b :: bs)
    | _, _ => none

/-- The state in which a read of `a` gives `v`: the byte of whichever memory backs `a` now is replaced, ROM and BOOT
included. This stands for the supply of the images from outside (00_scope R6), not for a store (log 19). -/
def placeByte (s : State) (a : Word) (v : Byte) : State :=
  match regionOf a with
  | .overlaid =>
    if s.overlayEnabled then { s with boot := s.boot.write a.toNat v } else { s with rom := s.rom.write a.toNat v }
  | .romBank0 => { s with rom := s.rom.write a.toNat v }
  | .romWindow => { s with rom := s.rom.write (windowIndex s.params a) v }
  | .vram => { s with vram := s.vram.write (a.toNat - 0x8000) v }
  | .eram => { s with eram := s.eram.write (a.toNat - 0xA000) v }
  | .wram => { s with wram := s.wram.write (a.toNat - 0xC000) v }
  | .hram => { s with hram := s.hram.write (a.toNat - 0xFF80) v }
  | .overlayDisable | .undecoded => s

/-- The bytes placed at `a`, `a + 1`, ... -/
def placeBytes (s : State) (a : Word) : List Byte → State
  | [] => s
  | b :: bs => placeBytes (placeByte s a b) (a + 1) bs

/-- The state able to take a Step at an address that can hold three bytes: enabled, and at the entry point 0x0100 where
`pc` is too near an address that does not decode. -/
def readyToFetch (s : State) : State :=
  let s1 := { s with status := .running, halted := false }
  match readBytes s1 s1.pc 3 with
  | some _ => s1
  | none => { s1 with pc := 0x0100 }

end Sys2Proof.Machine
end

