-- ==== Sys2Proof/Machine/Step.lean ====
section
/-! DEFINITION. The Execution Step (spec/40_step_dispatch R90, R95). -/

namespace Sys2Proof.Machine

/-- One Execution Step (R90), enabled only if the status is running and `halted` is false (R95). -/
def step (s : State) : Host.Outcome State Fault Refusal :=
  match s.status, s.halted with
  | .faulted c, _ => .fault (.stepNotEnabledFaulted c)
  | .running, true => .fault .stepNotEnabledHalted
  | .running, false =>
    match fetchInstr s with
    | .handler i t => exec i t
    | .raised t => .next t

/-- The state with the instruction `w` (numbered as opcode_table.json numbers bits, the bits above `nbits` zero) where the
next Step fetches it (log 19). -/
def State.withFetchWord (s : State) (nbits w : Nat) : State :=
  let t := readyToFetch s
  placeBytes t t.pc (tableBytes nbits w)

end Sys2Proof.Machine
end

