-- ==== Sys2Proof/Machine/Timing.lean ====
section
/-! DEFINITION. The table of costs (spec/70_reset_and_hazards R180), apart from the meanings that charge them. -/

namespace Sys2Proof

/-- The cost of a completed instruction in machine cycles; none for an instruction that always faults (R180). -/
def Form.cost (p : Params) : Form → Option Nat
  | .nop | .ldRegReg _ _ | .incReg _ | .decReg _ => some 1
  | .ldRegAtHL _ | .ldAtHLReg _ | .ldRegImm _ _ => some 2
  | .ldAtHLIncA | .ldAtHLDecA | .ldAAtHLInc | .ldAAtHLDec => some 2
  | .incPair _ | .decPair _ => some 2
  | .ldAtHLImm _ | .ldPairImm _ _ => some 3
  | .push _ => some p.cycPush
  | .pop _ => some p.cycPop
  | .stop | .undecoded _ => none

/-- The cost of an instruction (R180). -/
def Instr.cost (p : Params) (i : Instr) : Option Nat := i.form.cost p

end Sys2Proof
end

