-- ==== Sys2Proof/Safety.lean ====
section
/-! DEFINITION. What counts as a completed Step, what a Step returns, and the invariant of the state, in the terms the
statements use. -/

namespace Sys2Proof.Machine

/-- A Step is enabled (40_step_dispatch R95). -/
def State.enabled (s : State) : Prop := s.status = .running ∧ s.halted = false

/-- A Step that completes: a next state, and no fault raised (40_step_dispatch R90). -/
def Completes (s t : State) : Prop := step s = .next t ∧ t.status = .running

/-- A Step that raises `c` in the state `t` (60_exceptions R155, R156). -/
def Raises (s : State) (c : Cause) (t : State) : Prop := step s = .next t ∧ t.status = .faulted c

/-- `k` Steps one after another, stopping where no Step is enabled (40_step_dispatch R97). -/
def runSteps : Nat → State → Host.Outcome State Fault Refusal
  | 0, s => .next s
  | k + 1, s =>
    match step s with
    | .next t => runSteps k t
    | .fault r => .fault r
    | .refused r => .refused r

/-- What a Step gives its caller (40_step_dispatch R90, 60_exceptions R155). -/
inductive StepResult where
  /-- The number of machine cycles. -/
  | cost (n : Nat)
  /-- The fault, in place of a count. -/
  | raised (c : Cause)
  /-- No Step is enabled (R95). -/
  | notEnabled
deriving DecidableEq, Repr

/-- The result of the Step from `s`. -/
def stepResult (s : State) : StepResult :=
  match step s with
  | .next t =>
    match t.status with
    | .running => .cost (t.cycles - s.cycles)
    | .faulted c => .raised c
  | .fault _ | .refused _ => .notEnabled

/-- The addresses backed by RAM (20_memory R50 to R52). -/
def isRam (a : Word) : Bool :=
  (decide (0x8000 ≤ a.toNat) && decide (a.toNat ≤ 0xDFFF)) || (decide (0xFF80 ≤ a.toNat) && decide (a.toNat ≤ 0xFFFE))

/-- The addresses a read of which raises: 0xE000 to 0xFF7F and 0xFFFF (60_exceptions R153). -/
def undecodedForRead (a : Word) : Bool :=
  (decide (0xE000 ≤ a.toNat) && decide (a.toNat ≤ 0xFF7F)) || decide (a.toNat = 0xFFFF)

/-- The addresses a write of which raises: 0xE000 to 0xFF4F, 0xFF51 to 0xFF7F and 0xFFFF (60_exceptions R153). -/
def undecodedForWrite (a : Word) : Bool :=
  (decide (0xE000 ≤ a.toNat) && decide (a.toNat ≤ 0xFF4F)) || (decide (0xFF51 ≤ a.toNat) && decide (a.toNat ≤ 0xFF7F))
    || decide (a.toNat = 0xFFFF)

/-- Nothing of the MMU state differs, seen through the read of a byte and store by store (10_state R28). -/
structure SameMemory (s t : State) : Prop where
  reads : ∀ a, memRead t a = memRead s a
  overlay : t.overlayEnabled = s.overlayEnabled
  rom : t.rom = s.rom
  boot : t.boot = s.boot
  vram : t.vram = s.vram
  eram : t.eram = s.eram
  wram : t.wram = s.wram
  hram : t.hram = s.hram

/-- The machine is as it was but for one store of `v` at `a` (20_memory R45): `ROM` and `BOOT` are kept; the overlay stays
as it was unless `a` is 0xFF50, where it is disabled; a RAM address reads as `v`; and every address outside the stored byte
reads as before, where the store is not the overlay's disabling. -/
structure StoredAt (s t : State) (a : Word) (v : Byte) : Prop where
  rom : t.rom = s.rom
  boot : t.boot = s.boot
  overlay : t.overlayEnabled = (s.overlayEnabled && decide (a ≠ 0xFF50))
  stored : isRam a = true → memRead t a = some v
  notStored : isRam a = false → t.vram = s.vram ∧ t.eram = s.eram ∧ t.wram = s.wram ∧ t.hram = s.hram
  elsewhere : a ≠ 0xFF50 → ∀ b, b ≠ a → memRead t b = memRead s b
  outsideOverlay : ∀ b : Word, b ≠ a → 0x00FF < b.toNat → memRead t b = memRead s b

/-- `halted`, the status and the parameters are as they were (10_state R25, R27; 00_scope R6). -/
structure SameControl (s t : State) : Prop where
  halted : t.halted = s.halted
  status : t.status = s.status
  params : t.params = s.params

/-- The six stores are in canonical form, each within its size (10_state R28). -/
def State.memoriesWf (s : State) : Bool :=
  Images.wf s.params { rom := s.rom, boot := s.boot, vram := s.vram, eram := s.eram, wram := s.wram, hram := s.hram }

/-- What holds of every fresh instance and is kept by every Step: canonical memories, the low nibble of F zero
(10_state R23), the parameters legal (00_scope R6). -/
structure State.Inv (s : State) : Prop where
  memories : s.memoriesWf = true
  flagNibble : s.readF &&& 0x0F = 0
  params : s.params.wf = true

/-- The states a run comes to from a fresh instance (10_state R33) by Steps, completed or faulting, and by the caller's
reconstruction of the CPU (70_reset_and_hazards R171). -/
inductive Reachable : State → Prop where
  | fresh (p : Params) (img : Images) (s : State) (h : State.constructChecked p img = some s) : Reachable s
  | step (s t : State) (hs : Reachable s) (h : step s = .next t) : Reachable t
  | reconstructCpu (s : State) (hs : Reachable s) : Reachable s.reconstructCpu

end Sys2Proof.Machine
end

