-- ==== Sys2Proof/Certificates/Slice0/Obligations.lean ====
section
/-! DEFINITION. The statements for the provers. An instruction's own statement is at the handler level of 40_step_dispatch
R94: `s` is the state after the opcode fetch, so `pc` already stands past the opcode byte; `StepRunsTheDecodedInstruction`
carries it to a whole Step. -/

open Sys2Proof Sys2Proof.Machine

/-! ### Encoding (30_encoding) -/

/-- Decoding an encoded instruction gives it back, whatever bytes follow (R72 to R78; the bytes are PRESUMED, log 3). -/
def Obligations.DecodingAnEncodingGivesTheInstruction : Prop :=
  ∀ (i : Instr) (rest : List Byte), decode (encode i ++ rest) = .instr i rest

/-- Each decoded instruction is encoded by the very bytes it was read from, so no bit is dropped (R73, R82; the bytes are
PRESUMED, log 3). -/
def Obligations.EncodingADecodingGivesTheBytes : Prop :=
  ∀ (bytes : List Byte) (i : Instr) (rest : List Byte), decode bytes = .instr i rest → bytes = encode i ++ rest

/-- The decoder is total and rejects only bytes that end too early: the opcode byte alone says how many immediate bytes
follow (R72, 40_step_dispatch R93). That an undecoded byte is an instruction, one that raises, is the model's choice (log
23). -/
def Obligations.DecodingFailsOnlyForMissingBytes : Prop :=
  decode [] = .reject .noOpcode ∧
  ∀ op : Byte, ∃ n, n ≤ 2 ∧ ∀ bytes : List Byte,
    (n ≤ bytes.length → ∃ i rest, decode (op :: bytes) = .instr i rest ∧ i.length = n + 1) ∧
    (bytes.length < n → decode (op :: bytes) = .reject (.missingImmediate op))

/-- The length of each instruction, a function of the opcode byte alone (R72). `STOP` and an undecoded byte, to which R72
gives no length, count the one byte they consume (the model's choice, log 23). -/
def Obligations.InstructionLengths : Prop :=
  (∀ i : Instr, i.length = match i.form with
    | .ldPairImm _ _ => 3
    | .ldRegImm _ _ | .ldAtHLImm _ => 2
    | .nop | .stop | .ldRegReg _ _ | .ldRegAtHL _ | .ldAtHLReg _ | .ldAtHLIncA | .ldAtHLDecA | .ldAAtHLInc
    | .ldAAtHLDec | .push _ | .pop _ | .incReg _ | .decReg _ | .incPair _ | .decPair _ | .undecoded _ => 1) ∧
  ∀ i j : Instr, i.form.opcode = j.form.opcode → i.length = j.length

/-- The bytes of each instruction, field by field as R77 gives them with the codes of R70 and R71, an immediate as its byte or
as its low byte and then its high byte: the encoder writes these bytes and the decoder, which reads the map of R78, takes
them for that instruction. Every bit pattern is the spec's own, from general knowledge (D25, log 3). -/
def Obligations.EncodingsFollowTheTable : Prop :=
  ∀ i : Instr, ∃ bytes : List Byte, encode i = bytes ∧ decode bytes = .instr i [] ∧ bytes = match i.form with
    | .nop => [0b00000000]
    | .stop => [0b00010000]
    | .ldPairImm dst d16 => [0b00#2 ++ dst.code ++ 0b0001#4, d16.setWidth 8, (d16 >>> 8).setWidth 8]
    | .incPair rr => [0b00#2 ++ rr.code ++ 0b0011#4]
    | .decPair rr => [0b00#2 ++ rr.code ++ 0b1011#4]
    | .incReg r => [0b00#2 ++ r.code ++ 0b100#3]
    | .decReg r => [0b00#2 ++ r.code ++ 0b101#3]
    | .ldRegImm dst d8 => [0b00#2 ++ dst.code ++ 0b110#3, d8]
    | .ldAtHLImm d8 => [0b00110110, d8]
    | .ldAtHLIncA => [0b00100010]
    | .ldAtHLDecA => [0b00110010]
    | .ldAAtHLInc => [0b00101010]
    | .ldAAtHLDec => [0b00111010]
    | .ldRegReg dst src => [0b01#2 ++ dst.code ++ src.code]
    | .ldRegAtHL dst => [0b01#2 ++ dst.code ++ 0b110#3]
    | .ldAtHLReg src => [0b01110#5 ++ src.code]
    | .pop dst => [0b11#2 ++ dst.code ++ 0b0001#4]
    | .push src => [0b11#2 ++ src.code ++ 0b0101#4]
    | .undecoded op => [op]

/-- One word of each family, written out from R77, decodes to its instruction (the bytes are PRESUMED, log 3). -/
def Obligations.SampleWordsDecode : Prop :=
  decode [0b00000000] = .instr .nop [] ∧
  decode [0b00010000] = .instr .stop [] ∧
  decode [0b01000001] = .instr .ldB_C [] ∧
  decode [0b01101110] = .instr .ldL_atHL [] ∧
  decode [0b01110100] = .instr .ldAtHL_H [] ∧
  decode [0b00111110, 0xFF] = .instr (.ldA_d8 0xFF) [] ∧
  decode [0b00110110, 0x42] = .instr (.ldAtHL_d8 0x42) [] ∧
  decode [0b00100010] = .instr .ldAtHLInc_A [] ∧
  decode [0b00110010] = .instr .ldAtHLDec_A [] ∧
  decode [0b00101010] = .instr .ldA_atHLInc [] ∧
  decode [0b00111010] = .instr .ldA_atHLDec [] ∧
  decode [0b00000001, 0x7B, 0x00] = .instr (.ldBC_d16 0x007B) [] ∧
  decode [0b11110101] = .instr .pushAF [] ∧
  decode [0b11010001] = .instr .popDE [] ∧
  decode [0b00100100] = .instr .incH [] ∧
  decode [0b00001101] = .instr .decC [] ∧
  decode [0b00110011] = .instr .incSP [] ∧
  decode [0b00011011] = .instr .decDE [] ∧
  decode [0b01110110] = .instr .undecoded76 []

/-- The 145 bytes with no handler are those R79 lists, and each decodes as itself (R78; which bytes they are is the spec's
own decision D14, log 12). -/
def Obligations.UndecodedOpcodesAreThoseListed : Prop :=
  (∀ op : Byte, isUndecodedOpcode op = true ↔ ∃ i, decode [op] = .instr i [] ∧ i.form = .undecoded op) ∧
  ((List.range 256).filter fun n => isUndecodedOpcode (BitVec.ofNat 8 n)).length = 145 ∧
  ∀ i : Instr, i.wf = true

/-! ### The Execution Step (40_step_dispatch) -/

/-- When the bytes at the program counter decode to an instruction, an enabled Step is that instruction's meaning in the
state after the opcode fetch (R90, R91, R93). That a meaning has its immediates as operands is the model's choice (log
15). -/
def Obligations.StepRunsTheDecodedInstruction : Prop :=
  ∀ (s : State) (n : Nat) (bytes rest : List Byte) (i : Instr), s.enabled →
    readBytes s s.pc n = some bytes → decode bytes = .instr i rest → step s = exec i { s with pc := s.pc + 1 }

/-- An opcode fetch from an address that does not decode raises, and `pc` still holds that address (60_exceptions R156,
R157, and R91, whose order of read and increment the spec marks as derived; the addresses are D8 and D9, log 9). -/
def Obligations.OpcodeFetchFaultLeavesPc : Prop :=
  ∀ s : State, s.enabled → undecodedForRead s.pc = true →
    Raises s (.undecodedAddress s.pc .read) { s with status := .faulted (.undecodedAddress s.pc .read) }

/-- If the first immediate fetch of `LD rr,d16` raises, nothing but `pc` has changed; if the second does, the low half of
the pair has been written and `pc` stands two further (42_load16_stack R120, 60_exceptions R156; the order is the spec's
own decision D27, log 15). -/
def Obligations.WordImmediateFetchFaults : Prop :=
  ∀ (s : State) (i : Instr) (dst : Pair) (d16 : Word), s.enabled → i.form = .ldPairImm dst d16 →
    memRead s s.pc = some i.form.opcode →
    (undecodedForRead (s.pc + 1) = true →
      Raises s (.undecodedAddress (s.pc + 1) .read)
        { s with pc := s.pc + 1, status := .faulted (.undecodedAddress (s.pc + 1) .read) }) ∧
    (∀ lo, memRead s (s.pc + 1) = some lo → undecodedForRead (s.pc + 2) = true →
      ∃ t, Raises s (.undecodedAddress (s.pc + 2) .read) t ∧
        getLow (t.readPair dst) = lo ∧ getHigh (t.readPair dst) = getHigh (s.readPair dst) ∧
        (∀ q, q ≠ dst → t.readPair q = s.readPair q) ∧ t.af = s.af ∧ t.pc = s.pc + 2 ∧ t.cycles = s.cycles ∧
        t.halted = s.halted ∧ SameMemory s t)

/-- A Step that is not enabled does nothing (R95, the spec's own decisions D16 and D18): the model stops by name, with the
cause where the stream has ended (its own choice, log 2). -/
def Obligations.StepIsNotEnabledWhenFaultedOrHalted : Prop :=
  (∀ (s : State) (c : Cause), s.status = .faulted c → step s = .fault (.stepNotEnabledFaulted c)) ∧
  (∀ s : State, s.status = .running → s.halted = true → step s = .fault .stepNotEnabledHalted)

/-- A Step answers a next state exactly when it is enabled (R90, R95; logs 1 and 2): no instruction and no data ends a run
otherwise than by the state it leaves. -/
def Obligations.StepAnswersExactlyWhenEnabled : Prop :=
  ∀ s : State, s.enabled ↔ ∃ t, step s = .next t

/-- The result of a Step is exactly one of a cost of at least one cycle, a fault, or no Step (R90; that a faulting Step
has no cost is the spec's own decision D17, log 16). -/
def Obligations.StepResultIsCostOrFaultOrNothing : Prop :=
  ∀ s : State, s.params.wf = true →
    (∀ n, stepResult s = .cost n ↔ ∃ t, Completes s t ∧ t.cycles = s.cycles + n) ∧
    (∀ n, stepResult s = .cost n → 1 ≤ n) ∧
    (∀ c, stepResult s = .raised c ↔ ∃ t, Raises s c t) ∧
    (stepResult s = .notEnabled ↔ ¬ s.enabled)

/-- The three causes and what each records (60_exceptions R150 to R153; the addresses that do not decode are the spec's own
decisions D8 and D9, the trapping opcodes D14 and D15, log 9 and log 12): an `UndecodedAddress` records the address of the
one access that raised, the first of the instruction's accesses whose address does not decode (R157; the order is D27). -/
def Obligations.FaultCausesAndWhatTheyRecord : Prop :=
  ∀ (s t : State) (c : Cause), Raises s c t → match c with
    | .illegalOpcode op addr => addr = s.pc ∧ memRead s s.pc = some op ∧ isUndecodedOpcode op = true ∧ t.pc = s.pc + 1
    | .unimplemented op addr => op = 0x10 ∧ addr = s.pc ∧ memRead s s.pc = some 0x10 ∧ t.pc = s.pc + 1
    | .undecodedAddress a .read => undecodedForRead a = true ∧
        (a = s.pc ∨ ∃ i : Instr, memRead s s.pc = some i.form.opcode ∧ match i.form with
          | .ldRegImm _ _ | .ldAtHLImm _ => a = s.pc + 1
          | .ldPairImm _ _ => a = s.pc + 1 ∨ undecodedForRead (s.pc + 1) = false ∧ a = s.pc + 2
          | .ldRegAtHL _ | .ldAAtHLInc | .ldAAtHLDec => a = s.hl
          | .pop _ => a = s.sp ∨ undecodedForRead s.sp = false ∧ a = s.sp + 1
          | _ => False)
    | .undecodedAddress a .write => undecodedForWrite a = true ∧
        ∃ i : Instr, readBytes s s.pc i.length = some (encode i) ∧ match i.form with
          | .ldAtHLReg _ | .ldAtHLImm _ | .ldAtHLIncA | .ldAtHLDecA => a = s.hl
          | .push _ => a = s.sp - 1 ∨ undecodedForWrite (s.sp - 1) = false ∧ a = s.sp - 2
          | _ => False

/-- A fault is fatal: no Step is taken from a faulted state, however many are asked for, and nothing clears the status
(60_exceptions R155; that the stream's end is a named stop of the model is log 2). -/
def Obligations.FaultsAreFatal : Prop :=
  ∀ (s t : State) (c : Cause) (k : Nat), Raises s c t → runSteps (k + 1) t = .fault (.stepNotEnabledFaulted c)

/-! ### Rules of the whole machine -/

/-- Every Step keeps the invariant: canonical memories, the low nibble of F zero, legal parameters (10_state R23, with the
spec's own decision D20, log 14; the parameters in State are log 21). -/
def Obligations.EveryStepKeepsTheInvariant : Prop :=
  ∀ s t : State, s.Inv → step s = .next t → t.Inv

/-- The reset state and every fresh instance satisfy the invariant (10_state R23, R33; the values of the reset state are
logs 4 to 7 and 22). -/
def Obligations.FreshInstancesSatisfyTheInvariant : Prop :=
  State.reset.Inv ∧ ∀ (p : Params) (img : Images) (s : State), State.constructChecked p img = some s → s.Inv

/-- In every reachable state F's low nibble is zero, with the rest of the invariant, and `halted` is false (10_state R23,
R25; the latter is derived from the spec's own decision D18, log 11). -/
def Obligations.ReachableStatesAreLegalAndNotHalted : Prop :=
  ∀ s : State, Reachable s → s.Inv ∧ s.halted = false

/-- A completed Step leaves `pc` at the old `pc` plus the length of the instruction there, modulo 2^16 (44_misc_control
R146, 10_state R16; the wrap is the spec's own decision D12, log 17). -/
def Obligations.CompletedStepAdvancesPcByLength : Prop :=
  ∀ s t : State, Completes s t →
    ∃ i : Instr, readBytes s s.pc i.length = some (encode i) ∧ t.pc = s.pc + BitVec.ofNat 16 i.length

/-- A completed Step adds to `cycles` the cost the table gives the instruction at `pc`; a Step that raises adds nothing
(70_reset_and_hazards R180; the costs of push and pop are D19, log 6, and the faulting Step is D17, log 16). -/
def Obligations.StepChargesTheTableCost : Prop :=
  (∀ s t : State, Completes s t →
    ∃ (i : Instr) (n : Nat), readBytes s s.pc i.length = some (encode i) ∧ i.cost s.params = some n ∧
      t.cycles = s.cycles + n) ∧
  (∀ (s t : State) (c : Cause), Raises s c t → t.cycles = s.cycles)

/-- `cycles` never decreases along a run, and a completed Step strictly increases it (10_state R26, where the spec marks
the latter as derived; no wrap is D13, log 30). -/
def Obligations.CyclesNeverDecrease : Prop :=
  (∀ (k : Nat) (s t : State), runSteps k s = .next t → s.cycles ≤ t.cycles) ∧
  (∀ s t : State, s.params.wf = true → Completes s t → s.cycles < t.cycles)

/-- No instruction reads `cycles` (10_state R26): a Step does the same from any count, and adds the same to it. -/
def Obligations.NothingReadsTheCycleCounter : Prop :=
  ∀ (s t : State) (n : Nat), step s = .next t →
    step { s with cycles := s.cycles + n } = .next { t with cycles := t.cycles + n }

/-- The overlay flag starts true, is cleared by nothing but a store to 0xFF50 (through HL, or by a push), and once cleared
stays cleared along every run (10_state R29). -/
def Obligations.OverlayFlagIsClearedByAStoreTo0xFF50AndNeverSet : Prop :=
  (∀ (p : Params) (img : Images), (State.construct p img).overlayEnabled = true) ∧
  (∀ s t : State, s.overlayEnabled = true → step s = .next t → t.overlayEnabled = false →
    ∃ i : Instr, readBytes s s.pc i.length = some (encode i) ∧ match i.form with
      | .ldAtHLReg _ | .ldAtHLImm _ | .ldAtHLIncA | .ldAtHLDecA => s.hl = 0xFF50
      | .push _ => s.sp - 1 = 0xFF50 ∨ s.sp - 2 = 0xFF50
      | _ => False) ∧
  (∀ (s : State) (v : Byte), ∃ t, memWrite s 0xFF50 v = some t ∧ t.overlayEnabled = false) ∧
  ∀ (k : Nat) (s t : State), s.overlayEnabled = false → runSteps k s = .next t → t.overlayEnabled = false

/-- No Step changes ROM, BOOT, the parameters or `halted` (10_state R25, R28; 00_scope R6; `halted` is the spec's own
decision D18, log 11). -/
def Obligations.StepKeepsRomBootParametersAndHalted : Prop :=
  ∀ s t : State, step s = .next t →
    t.rom = s.rom ∧ t.boot = s.boot ∧ t.params = s.params ∧ t.halted = s.halted

/-- `SP` is written only by `PUSH`, `POP`, `LD SP,d16`, `INC SP` and `DEC SP` (10_state R14, R15). -/
def Obligations.StackPointerIsWrittenOnlyByItsInstructions : Prop :=
  ∀ (i : Instr) (s t : State), exec i s = .next t → t.sp ≠ s.sp →
    (∃ r, i.form = .push r) ∨ (∃ r, i.form = .pop r) ∨ (∃ d, i.form = .ldPairImm .sp d) ∨
    i.form = .incPair .sp ∨ i.form = .decPair .sp

/-- F is written only by `INC r`, `DEC r` and `POP AF`, and the carry flag only by `POP AF` (10_state R24, which the spec
derives in part from the families' contracts). -/
def Obligations.FlagsAreWrittenOnlyByIncDecAndPopAf : Prop :=
  ∀ (i : Instr) (s t : State), exec i s = .next t →
    (t.readF ≠ s.readF → (∃ r, i.form = .incReg r) ∨ (∃ r, i.form = .decReg r) ∨ i.form = .pop .af) ∧
    (t.flag .c ≠ s.flag .c → i.form = .pop .af)

/-- Only the stores through HL and `PUSH` write memory (20_memory R60). -/
def Obligations.OnlyStoresAndPushWriteMemory : Prop :=
  ∀ (i : Instr) (s t : State), exec i s = .next t →
    (match i.form with
      | .ldAtHLReg _ | .ldAtHLImm _ | .ldAtHLIncA | .ldAtHLDecA | .push _ => False
      | _ => True) → SameMemory s t

/-! ### Memory (20_memory) -/

/-- `MemRead`, line by line as R44 gives it; where no line gives a byte, whatever reads there raises. -/
def Obligations.MemReadFollowsTheDecodeTable : Prop :=
  ∀ (s : State) (a : Word), (memRead s a =
    if a.toNat ≤ 0x00FF ∧ s.overlayEnabled = true then some (s.boot.read a.toNat)
    else if a.toNat ≤ 0x3FFF then some (s.rom.read a.toNat)
    else if a.toNat ≤ 0x7FFF then some (s.rom.read (s.params.windowBank * 0x4000 + (a.toNat - 0x4000)))
    else if a.toNat ≤ 0x9FFF then some (s.vram.read (a.toNat - 0x8000))
    else if a.toNat ≤ 0xBFFF then some (s.eram.read (a.toNat - 0xA000))
    else if a.toNat ≤ 0xDFFF then some (s.wram.read (a.toNat - 0xC000))
    else if 0xFF80 ≤ a.toNat ∧ a.toNat ≤ 0xFFFE then some (s.hram.read (a.toNat - 0xFF80))
    else none) ∧
  ∀ k, memRead s a = none → withRead s a k = .next { s with status := .faulted (.undecodedAddress a .read) }

/-- `MemWrite`, line by line as R45 gives it; where no line takes the byte, whatever writes there raises. -/
def Obligations.MemWriteFollowsTheDecodeTable : Prop :=
  ∀ (s : State) (a : Word) (v : Byte), (memWrite s a v =
    if a.toNat ≤ 0x7FFF then some s
    else if a.toNat ≤ 0x9FFF then some { s with vram := s.vram.write (a.toNat - 0x8000) v }
    else if a.toNat ≤ 0xBFFF then some { s with eram := s.eram.write (a.toNat - 0xA000) v }
    else if a.toNat ≤ 0xDFFF then some { s with wram := s.wram.write (a.toNat - 0xC000) v }
    else if a = 0xFF50 then some { s with overlayEnabled := false }
    else if 0xFF80 ≤ a.toNat ∧ a.toNat ≤ 0xFFFE then some { s with hram := s.hram.write (a.toNat - 0xFF80) v }
    else none) ∧
  ∀ k, memWrite s a v = none → withWrite s a v k = .next { s with status := .faulted (.undecodedAddress a .write) }

/-- RAM is plain storage: a RAM address reads as the byte last written there, and a write changes no other address (R50 to
R52; that nothing gates it is the spec's own decision D11, log 27). -/
def Obligations.RamReadsBackWhatWasWritten : Prop :=
  ∀ (s : State) (a : Word) (v : Byte), s.Inv → isRam a = true →
    ∃ t, memWrite s a v = some t ∧ memRead t a = some v ∧ ∀ b, b ≠ a → memRead t b = memRead s b

/-- The overlay covers the reads of 0x0000 to 0x00FF while its flag is set, and ROM bank 0 those of the rest and those of
the same addresses once it is cleared, by any write of 0xFF50 (R46, R47). -/
def Obligations.OverlayAndRomReads : Prop :=
  ∀ (s : State) (a : Word),
    (a.toNat ≤ 0x00FF → s.overlayEnabled = true → memRead s a = some (s.boot.read a.toNat)) ∧
    (a.toNat ≤ 0x00FF → s.overlayEnabled = false → memRead s a = some (s.rom.read a.toNat)) ∧
    (0x0100 ≤ a.toNat → a.toNat ≤ 0x3FFF → memRead s a = some (s.rom.read a.toNat)) ∧
    (∀ (v : Byte) (t : State), memWrite s 0xFF50 v = some t → a.toNat ≤ 0x00FF →
      memRead t a = some (s.rom.read a.toNat))

/-- The window shows bank 0 again, and no address shows a byte of ROM from index 0x4000 on (R48; the bank number is the
spec's own decision D7, log 8). -/
def Obligations.TheWindowRepeatsBankZero : Prop :=
  ∀ s : State, s.params.wf = true →
    (∀ a : Word, 0x4000 ≤ a.toNat → a.toNat ≤ 0x7FFF → memRead s a = some (s.rom.read (a.toNat - 0x4000))) ∧
    (∀ a : Word, 0x0100 ≤ a.toNat → a.toNat ≤ 0x3FFF → memRead s (a + 0x4000) = memRead s a) ∧
    (∀ m : Memory, (∀ k, k < 0x4000 → m.read k = s.rom.read k) → ∀ a, memRead { s with rom := m } a = memRead s a)

/-- The addresses that raise, on a read and on a write (60_exceptions R153, 20_memory R54, R55; the spec's own decisions
D8 and D9, log 9). -/
def Obligations.UndecodedAddressesRaise : Prop :=
  ∀ (s : State) (a : Word) (v : Byte),
    (memRead s a = none ↔ (0xE000 ≤ a.toNat ∧ a.toNat ≤ 0xFF7F) ∨ a.toNat = 0xFFFF) ∧
    (memWrite s a v = none ↔
      (0xE000 ≤ a.toNat ∧ a.toNat ≤ 0xFF4F) ∨ (0xFF51 ≤ a.toNat ∧ a.toNat ≤ 0xFF7F) ∨ a.toNat = 0xFFFF)

/-- A byte stored in RAM is what the very next fetch from there executes (R65, which the spec marks as derived). -/
def Obligations.StoredByteIsTheNextOpcode : Prop :=
  ∀ (s t : State) (op : Byte) (i : Instr), s.Inv → s.enabled → isRam s.pc = true → memWrite s s.pc op = some t →
    decode [op] = .instr i [] → step t = exec i { t with pc := t.pc + 1 }

/-! ### Registers and flags (10_state) -/

/-- The four pair accessors are the shifts and masks of R11, and obey the laws of R12. -/
def Obligations.PairAccessorsComposeAndAreIndependent : Prop :=
  ∀ (v : Word) (b c : Byte),
    getHigh v = (v >>> 8).setWidth 8 ∧ getLow v = v.setWidth 8 ∧
    setHigh v b = (b.setWidth 16 <<< 8) ||| (v &&& 0x00FF) ∧ setLow v b = (v &&& 0xFF00) ||| b.setWidth 16 ∧
    getLow (setHigh v b) = getLow v ∧ getHigh (setHigh v b) = b ∧
    getHigh (setLow v b) = getHigh v ∧ getLow (setLow v b) = b ∧
    setHigh (setLow v b) c = (c.setWidth 16 <<< 8) ||| b.setWidth 16 ∧
    setLow (setHigh v c) b = (c.setWidth 16 <<< 8) ||| b.setWidth 16

/-- The byte registers alias the halves of their pairs: a write to either view is seen by the other at once, and changes
no other register, no memory and nothing else of the state (R13, where the letters' places are general knowledge, log 25;
a write of A leaves F, log 14). -/
def Obligations.ByteRegistersAliasTheirPairs : Prop :=
  ∀ (s : State) (r : Reg8) (v : Byte),
    (∀ q, (s.writeReg8 r v).readReg8 q = if q = r then v else s.readReg8 q) ∧
    (s.writeReg8 r v).readF = s.readF ∧
    (∃ af bc de hl, s.writeReg8 r v = { s with af := af, bc := bc, de := de, hl := hl }) ∧
    s.bc = s.readReg8 .b ++ s.readReg8 .c ∧ s.de = s.readReg8 .d ++ s.readReg8 .e ∧
    s.hl = s.readReg8 .h ++ s.readReg8 .l ∧ s.af = s.readReg8 .a ++ s.readF

/-- The flag byte is the low byte of AF, with the four masks of the zero, subtraction, half-carry and carry flags as R17
gives them; and the five flag operations as R18 to R22 write them, where the low nibble of F is zero (R23): each changes
the flags it names and no other, keeps A and everything else, and leaves the low nibble zero. -/
def Obligations.FlagOperations : Prop :=
  Flag.z.mask = 0x80 ∧ Flag.n.mask = 0x40 ∧ Flag.h.mask = 0x20 ∧ Flag.c.mask = 0x10 ∧
  ∀ (s : State) (f g : Flag) (fs : List Flag), s.readF &&& 0x0F = 0 →
    s.readF = s.af.setWidth 8 ∧
    (s.flag f = true ↔ s.readF &&& f.mask ≠ 0) ∧
    (s.setFlag f).readF = s.readF ||| f.mask ∧ (s.clearFlag f).readF = s.readF &&& ~~~f.mask ∧
    (s.toggleFlag f).readF = s.readF ^^^ f.mask ∧ (s.resetFlags fs).readF = fs.foldr (fun f b => f.mask ||| b) 0 ∧
    (s.setFlag f).flag g = (decide (g = f) || s.flag g) ∧
    (s.clearFlag f).flag g = (!decide (g = f) && s.flag g) ∧
    (s.toggleFlag f).flag g = (if g = f then !s.flag g else s.flag g) ∧
    (s.resetFlags fs).flag g = decide (g ∈ fs) ∧
    (∀ t, t = s.setFlag f ∨ t = s.clearFlag f ∨ t = s.toggleFlag f ∨ t = s.resetFlags fs →
      t.readF &&& 0x0F = 0 ∧ (∀ q, t.readReg8 q = s.readReg8 q) ∧ t = { s with af := t.af })

/-! ### The 8-bit loads (41_load_8bit) -/

/-- `LD r,r'` (R100). -/
def Obligations.LoadRegisterFromRegister : Prop :=
  ∀ (i : Instr) (dst src : Reg8) (s : State), i.form = .ldRegReg dst src →
    ∃ t, exec i s = .next t ∧ t.readReg8 dst = s.readReg8 src ∧ t.cycles = s.cycles + 1 ∧
      (∀ q, q ≠ dst → t.readReg8 q = s.readReg8 q) ∧ t.readF = s.readF ∧ t.sp = s.sp ∧ t.pc = s.pc ∧
      SameMemory s t ∧ SameControl s t

/-- `LD r,(HL)` (R101): where the address decodes for a read, and the fault where it does not. -/
def Obligations.LoadRegisterFromPointer : Prop :=
  ∀ (i : Instr) (dst : Reg8) (s : State), i.form = .ldRegAtHL dst →
    (undecodedForRead s.hl = false →
      ∃ (v : Byte) (t : State), memRead s s.hl = some v ∧ exec i s = .next t ∧
        t.readReg8 dst = v ∧ t.cycles = s.cycles + 2 ∧
        (∀ q, q ≠ dst → t.readReg8 q = s.readReg8 q) ∧ t.readF = s.readF ∧ t.sp = s.sp ∧ t.pc = s.pc ∧
        SameMemory s t ∧ SameControl s t) ∧
    (undecodedForRead s.hl = true →
      exec i s = .next { s with status := .faulted (.undecodedAddress s.hl .read) })

/-- `LD (HL),r` (R102): where the address decodes for a write, and the fault where it does not. -/
def Obligations.StoreRegisterAtPointer : Prop :=
  ∀ (i : Instr) (src : Reg8) (s : State), i.form = .ldAtHLReg src →
    (s.Inv → undecodedForWrite s.hl = false →
      ∃ t, exec i s = .next t ∧ StoredAt s t s.hl (s.readReg8 src) ∧ t.cycles = s.cycles + 2 ∧
        (∀ q, t.readReg8 q = s.readReg8 q) ∧ t.readF = s.readF ∧ t.sp = s.sp ∧ t.pc = s.pc ∧ SameControl s t) ∧
    (undecodedForWrite s.hl = true →
      exec i s = .next { s with status := .faulted (.undecodedAddress s.hl .write) })

/-- `LD r,d8` (R103), and the Step whose immediate fetch raises: `pc` then holds the address of the immediate and nothing
else has changed. -/
def Obligations.LoadRegisterImmediate : Prop :=
  ∀ (i : Instr) (dst : Reg8) (d8 : Byte) (s : State), i.form = .ldRegImm dst d8 →
    (∃ t, exec i s = .next t ∧ t.readReg8 dst = d8 ∧ t.pc = s.pc + 1 ∧ t.cycles = s.cycles + 2 ∧
      (∀ q, q ≠ dst → t.readReg8 q = s.readReg8 q) ∧ t.readF = s.readF ∧ t.sp = s.sp ∧
      SameMemory s t ∧ SameControl s t) ∧
    (s.enabled → memRead s s.pc = some i.form.opcode → undecodedForRead (s.pc + 1) = true →
      Raises s (.undecodedAddress (s.pc + 1) .read)
        { s with pc := s.pc + 1, status := .faulted (.undecodedAddress (s.pc + 1) .read) })

/-- `LD (HL),d8` (R104): where the address decodes for a write; the fault of the store, after the immediate fetch (the order
is the spec's own decision D27, log 15); and the Step whose immediate fetch raises. -/
def Obligations.StoreImmediateAtPointer : Prop :=
  ∀ (i : Instr) (d8 : Byte) (s : State), i.form = .ldAtHLImm d8 →
    (s.Inv → undecodedForWrite s.hl = false →
      ∃ t, exec i s = .next t ∧ StoredAt s t s.hl d8 ∧ t.pc = s.pc + 1 ∧ t.cycles = s.cycles + 3 ∧
        (∀ q, t.readReg8 q = s.readReg8 q) ∧ t.readF = s.readF ∧ t.sp = s.sp ∧ SameControl s t) ∧
    (undecodedForWrite s.hl = true →
      exec i s = .next { s with pc := s.pc + 1, status := .faulted (.undecodedAddress s.hl .write) }) ∧
    (s.enabled → memRead s s.pc = some i.form.opcode → undecodedForRead (s.pc + 1) = true →
      Raises s (.undecodedAddress (s.pc + 1) .read)
        { s with pc := s.pc + 1, status := .faulted (.undecodedAddress (s.pc + 1) .read) })

/-- `LD (HL+),A` (R105) and `LD (HL-),A` (R106): the store is at the old HL, which is then stepped modulo 2^16 (D12,
log 17); where HL does not decode for a write, the fault, and HL is not stepped. -/
def Obligations.StoreAccumulatorAndStepPointer : Prop :=
  ∀ (i : Instr) (s : State), i.form = .ldAtHLIncA ∨ i.form = .ldAtHLDecA →
    (s.Inv → undecodedForWrite s.hl = false →
      ∃ t, exec i s = .next t ∧ StoredAt s t s.hl (s.readReg8 .a) ∧
        t.hl = (if i.form = .ldAtHLIncA then s.hl + 1 else s.hl - 1) ∧ t.cycles = s.cycles + 2 ∧
        t.af = s.af ∧ t.bc = s.bc ∧ t.de = s.de ∧ t.sp = s.sp ∧ t.pc = s.pc ∧ SameControl s t) ∧
    (undecodedForWrite s.hl = true →
      exec i s = .next { s with status := .faulted (.undecodedAddress s.hl .write) })

/-- `LD A,(HL+)` (R107) and `LD A,(HL-)` (R108): the load is from the old HL, which is then stepped modulo 2^16 (D12,
log 17); where HL does not decode for a read, the fault, and neither A nor HL is written. -/
def Obligations.LoadAccumulatorAndStepPointer : Prop :=
  ∀ (i : Instr) (s : State), i.form = .ldAAtHLInc ∨ i.form = .ldAAtHLDec →
    (undecodedForRead s.hl = false →
      ∃ (v : Byte) (t : State), memRead s s.hl = some v ∧ exec i s = .next t ∧ t.readReg8 .a = v ∧
        t.hl = (if i.form = .ldAAtHLInc then s.hl + 1 else s.hl - 1) ∧ t.cycles = s.cycles + 2 ∧
        t.readF = s.readF ∧ t.bc = s.bc ∧ t.de = s.de ∧ t.sp = s.sp ∧ t.pc = s.pc ∧
        SameMemory s t ∧ SameControl s t) ∧
    (undecodedForRead s.hl = true →
      exec i s = .next { s with status := .faulted (.undecodedAddress s.hl .read) })

/-! ### The 16-bit load and the stack (42_load16_stack) -/

/-- `LD rr,d16` (R120; that DE, HL and SP follow the contract given for BC is the spec's own decision D14, log 12). -/
def Obligations.LoadPairImmediate : Prop :=
  ∀ (i : Instr) (dst : Pair) (d16 : Word) (s : State), i.form = .ldPairImm dst d16 →
    ∃ t, exec i s = .next t ∧ t.readPair dst = d16 ∧ t.pc = s.pc + 2 ∧ t.cycles = s.cycles + 3 ∧
      (∀ q, q ≠ dst → t.readPair q = s.readPair q) ∧ t.af = s.af ∧ SameMemory s t ∧ SameControl s t

/-- `PUSH rr` (R121), where both stack addresses decode for a write: the high byte at `SP - 1`, the low byte at `SP - 2`,
every other address as before. The count is a parameter (D19, log 6); a write to ROM is discarded (D10, log 10). -/
def Obligations.PushStoresHighThenLow : Prop :=
  ∀ (i : Instr) (src : StackPair) (s : State), i.form = .push src → s.Inv →
    undecodedForWrite (s.sp - 1) = false → undecodedForWrite (s.sp - 2) = false →
    ∃ t, exec i s = .next t ∧ t.sp = s.sp - 2 ∧ t.cycles = s.cycles + s.params.cycPush ∧
      (isRam (s.sp - 1) = true → memRead t (s.sp - 1) = some (getHigh (s.readStackPair src))) ∧
      (isRam (s.sp - 2) = true → memRead t (s.sp - 2) = some (getLow (s.readStackPair src))) ∧
      (isRam (s.sp - 1) = false → memRead t (s.sp - 1) = memRead s (s.sp - 1)) ∧
      (isRam (s.sp - 2) = false → memRead t (s.sp - 2) = memRead s (s.sp - 2)) ∧
      (∀ b, b ≠ s.sp - 1 → b ≠ s.sp - 2 → memRead t b = memRead s b) ∧
      t.rom = s.rom ∧ t.boot = s.boot ∧ t.overlayEnabled = s.overlayEnabled ∧
      t.af = s.af ∧ t.bc = s.bc ∧ t.de = s.de ∧ t.hl = s.hl ∧ t.pc = s.pc ∧ SameControl s t

/-- `PUSH rr` where a stack address does not decode (R121, 60_exceptions R156; D8, log 9): after the first decrement
nothing is stored; after the second the high byte is. -/
def Obligations.PushRaisesAfterItsDecrements : Prop :=
  ∀ (i : Instr) (src : StackPair) (s : State), i.form = .push src →
    (undecodedForWrite (s.sp - 1) = true →
      exec i s = .next { s with sp := s.sp - 1, status := .faulted (.undecodedAddress (s.sp - 1) .write) }) ∧
    (s.Inv → undecodedForWrite (s.sp - 1) = false → undecodedForWrite (s.sp - 2) = true →
      ∃ t, exec i s = .next t ∧ t.status = .faulted (.undecodedAddress (s.sp - 2) .write) ∧
        StoredAt s t (s.sp - 1) (getHigh (s.readStackPair src)) ∧ t.sp = s.sp - 2 ∧ t.cycles = s.cycles ∧
        t.af = s.af ∧ t.bc = s.bc ∧ t.de = s.de ∧ t.hl = s.hl ∧ t.pc = s.pc ∧ t.halted = s.halted ∧
        t.params = s.params)

/-- `POP rr` (R122), where both stack addresses decode for a read: low byte at `SP`, high byte at `SP + 1`; `POP AF` drops
the low nibble of F (the spec's own decision D20, log 14), and no other pop writes a flag. The count is a parameter (D19,
log 6). -/
def Obligations.PopLoadsLowThenHigh : Prop :=
  ∀ (i : Instr) (dst : StackPair) (s : State), i.form = .pop dst →
    undecodedForRead s.sp = false → undecodedForRead (s.sp + 1) = false →
    ∃ (lo hi : Byte) (t : State), memRead s s.sp = some lo ∧ memRead s (s.sp + 1) = some hi ∧ exec i s = .next t ∧
      t.readStackPair dst = hi ++ (if dst = .af then lo &&& 0xF0 else lo) ∧
      (∀ q, q ≠ dst → t.readStackPair q = s.readStackPair q) ∧
      t.sp = s.sp + 2 ∧ t.cycles = s.cycles + s.params.cycPop ∧ t.pc = s.pc ∧ SameMemory s t ∧ SameControl s t

/-- `POP rr` where a stack address does not decode (R122, 60_exceptions R156; that the pair is written after both reads is
the spec's own decision D27, log 15): the pair is not written, and the stack pointer has been incremented once if the
first read succeeded. -/
def Obligations.PopRaisesWithoutWritingThePair : Prop :=
  ∀ (i : Instr) (dst : StackPair) (s : State), i.form = .pop dst →
    (undecodedForRead s.sp = true →
      exec i s = .next { s with status := .faulted (.undecodedAddress s.sp .read) }) ∧
    (undecodedForRead s.sp = false → undecodedForRead (s.sp + 1) = true →
      exec i s = .next { s with sp := s.sp + 1, status := .faulted (.undecodedAddress (s.sp + 1) .read) })

/-- A push and then a pop with both stack bytes in RAM moves the pair and restores `SP`; popped into AF, the low nibble is
dropped (R122, where the spec marks it as derived). -/
def Obligations.PushThenPopMovesThePair : Prop :=
  ∀ (i j : Instr) (src dst : StackPair) (s : State), i.form = .push src → j.form = .pop dst → s.Inv →
    isRam (s.sp - 1) = true → isRam (s.sp - 2) = true →
    ∃ u t, exec i s = .next u ∧ exec j u = .next t ∧ t.sp = s.sp ∧
      t.readStackPair dst = (if dst = .af then s.readStackPair src &&& 0xFFF0 else s.readStackPair src) ∧
      t.cycles = s.cycles + s.params.cycPush + s.params.cycPop

/-! ### Increment and decrement (43_incdec) -/

/-- `INC r` (R130). -/
def Obligations.IncrementByteRegister : Prop :=
  ∀ (i : Instr) (r : Reg8) (s : State), i.form = .incReg r →
    ∃ t, exec i s = .next t ∧ t.readReg8 r = s.readReg8 r + 1 ∧ t.cycles = s.cycles + 1 ∧
      (t.flag .z = true ↔ s.readReg8 r + 1 = 0) ∧ t.flag .n = false ∧
      (t.flag .h = true ↔ (s.readReg8 r + 1) &&& 0x0F = 0) ∧ t.flag .c = s.flag .c ∧ t.readF &&& 0x0F = 0 ∧
      (∀ q, q ≠ r → t.readReg8 q = s.readReg8 q) ∧ t.sp = s.sp ∧ t.pc = s.pc ∧ SameMemory s t ∧ SameControl s t

/-- `DEC r` (R131). -/
def Obligations.DecrementByteRegister : Prop :=
  ∀ (i : Instr) (r : Reg8) (s : State), i.form = .decReg r →
    ∃ t, exec i s = .next t ∧ t.readReg8 r = s.readReg8 r - 1 ∧ t.cycles = s.cycles + 1 ∧
      (t.flag .z = true ↔ s.readReg8 r - 1 = 0) ∧ t.flag .n = true ∧
      (t.flag .h = true ↔ (s.readReg8 r - 1) &&& 0x0F = 0x0F) ∧ t.flag .c = s.flag .c ∧ t.readF &&& 0x0F = 0 ∧
      (∀ q, q ≠ r → t.readReg8 q = s.readReg8 q) ∧ t.sp = s.sp ∧ t.pc = s.pc ∧ SameMemory s t ∧ SameControl s t

/-- `INC rr` (R132) and `DEC rr` (R133): the whole pair, modulo 2^16 (for the pairs other than SP the spec's own decision
D12, log 17), and no flag. -/
def Obligations.IncrementAndDecrementPair : Prop :=
  ∀ (i : Instr) (rr : Pair) (s : State), i.form = .incPair rr ∨ i.form = .decPair rr →
    ∃ t, exec i s = .next t ∧
      t.readPair rr = (if i.form = .incPair rr then s.readPair rr + 1 else s.readPair rr - 1) ∧
      t.cycles = s.cycles + 2 ∧ (∀ q, q ≠ rr → t.readPair q = s.readPair q) ∧ t.af = s.af ∧ t.pc = s.pc ∧
      SameMemory s t ∧ SameControl s t

/-- The half-carry flag of an 8-bit increment or decrement is the canonical carry out of, or borrow into, the low nibble
(R134, which the spec marks as derived; D24, log 24). -/
def Obligations.HalfCarryIsTheNibbleCarry : Prop :=
  ∀ (i : Instr) (r : Reg8) (s t : State), exec i s = .next t →
    (i.form = .incReg r → (t.flag .h = true ↔ 0x0F < (s.readReg8 r).toNat % 16 + 1)) ∧
    (i.form = .decReg r → (t.flag .h = true ↔ (s.readReg8 r).toNat % 16 < 1))

/-! ### NOP, STOP and the undecoded opcodes (44_misc_control), reset (70_reset_and_hazards) -/

/-- `NOP` (R140): one cycle and no other change; over the whole Step `pc` advances by 1 as well. -/
def Obligations.NopOnlyCountsACycle : Prop :=
  (∀ s : State, exec .nop s = .next { s with cycles := s.cycles + 1 }) ∧
  ∀ s : State, s.enabled → memRead s s.pc = some Form.nop.opcode →
    step s = .next { s with pc := s.pc + 1, cycles := s.cycles + 1 }

/-- `STOP` (R141, the spec's own decision D15, log 13): the trap is taken whatever follows the opcode byte; only `pc`,
past the opcode byte, and the status have changed. -/
def Obligations.StopTraps : Prop :=
  (∀ s : State, exec .stop s = .next { s with status := .faulted (.unimplemented 0x10 (s.pc - 1)) }) ∧
  (∀ s : State, s.enabled → memRead s s.pc = some 0x10 →
    Raises s (.unimplemented 0x10 s.pc) { s with pc := s.pc + 1, status := .faulted (.unimplemented 0x10 s.pc) })

/-- Each undecoded opcode (R142, the spec's own decision D14, log 12) raises `IllegalOpcode` with its byte and its
address; only `pc`, past the opcode byte, and the status have changed, and nothing depends on the bytes after it. -/
def Obligations.UndecodedOpcodesRaiseIllegalOpcode : Prop :=
  (∀ (i : Instr) (op : Byte) (s : State), i.form = .undecoded op →
    exec i s = .next { s with status := .faulted (.illegalOpcode op (s.pc - 1)) }) ∧
  (∀ (op : Byte) (s : State), s.enabled → isUndecodedOpcode op = true → memRead s s.pc = some op →
    Raises s (.illegalOpcode op s.pc) { s with pc := s.pc + 1, status := .faulted (.illegalOpcode op s.pc) })

/-- The state of a fresh instance, from any parameters and contents (10_state R33; `halted` is D18 and `status` D16, the
spec's own decisions, logs 11 and 28). -/
def Obligations.FreshInstanceValues : Prop :=
  (∀ (p : Params) (img : Images), State.construct p img =
    { af := 0x01B0, bc := p.resetBc, de := p.resetDe, hl := p.resetHl, sp := 0xFFFE, pc := p.resetPc,
      halted := false, cycles := 0, status := .running, overlayEnabled := true, rom := img.rom, boot := img.boot,
      vram := img.vram, eram := img.eram, wram := img.wram, hram := img.hram, params := p }) ∧
  (∀ (p : Params) (img : Images) (s : State), State.constructChecked p img = some s →
    s = State.construct p img ∧ 0x4000 ≤ p.romLen ∧ (p.resetPc = 0x0100 ∨ p.resetPc = 0x0000))

/-- Reconstructing the CPU alone gives the CPU its reset values and leaves the MMU as it was, the overlay flag included;
after it a Step is enabled (70_reset_and_hazards R171, which the spec marks as derived; 60_exceptions R159; log 32). -/
def Obligations.ReconstructingTheCpuKeepsTheMmu : Prop :=
  ∀ s : State, s.reconstructCpu.enabled ∧ SameMemory s s.reconstructCpu ∧ s.reconstructCpu.params = s.params ∧
    s.reconstructCpu.af = 0x01B0 ∧ s.reconstructCpu.bc = s.params.resetBc ∧ s.reconstructCpu.de = s.params.resetDe ∧
    s.reconstructCpu.hl = s.params.resetHl ∧ s.reconstructCpu.sp = 0xFFFE ∧ s.reconstructCpu.pc = s.params.resetPc ∧
    s.reconstructCpu.cycles = 0

/-- A word placed where the next Step fetches is the instruction that Step runs (the model's own interface, log 19). -/
def Obligations.PlacedWordIsTheNextInstruction : Prop :=
  ∀ (s : State) (nbits w : Nat), s.Inv → ∃ i, decodeTableWord nbits w = some i ∧
    step (s.withFetchWord nbits w) = exec i (s.withFetchWord nbits w).advancePc
end

