-- ==== Sys2Proof/Laws/Pairs.lean ====
section
/-! SUPPORT. The laws of the two bytes of a 16-bit value (spec/10_state R12). -/

namespace Sys2Proof

/-- The bits of two joined bytes. -/
theorem getLsbD_joinBytes (h l : Byte) (i : Nat) :
    (joinBytes h l).getLsbD i = if i < 8 then l.getLsbD i else h.getLsbD (i - 8) :=
  BitVec.getLsbD_append (x := h) (y := l) (i := i)

@[simp] theorem getHigh_joinBytes (h l : Byte) : getHigh (joinBytes h l) = h := by
  apply BitVec.eq_of_getLsbD_eq
  intro i hi
  simp [getHigh, getLsbD_joinBytes, hi]

@[simp] theorem getLow_joinBytes (h l : Byte) : getLow (joinBytes h l) = l := by
  apply BitVec.eq_of_getLsbD_eq
  intro i hi
  simp [getLow, getLsbD_joinBytes, hi]

@[simp] theorem joinBytes_getHigh_getLow (v : Word) : joinBytes (getHigh v) (getLow v) = v := by
  apply BitVec.eq_of_getLsbD_eq
  intro i hi
  by_cases h : i < 8
  · simp [getLow, getLsbD_joinBytes, h]
  · have h8 : 8 + (i - 8) = i := by omega
    have h7 : i - 8 < 8 := by omega
    simp [getHigh, getLsbD_joinBytes, h, h7, h8]

@[simp] theorem getHigh_setHigh (v : Word) (b : Byte) : getHigh (setHigh v b) = b := by simp [setHigh]
@[simp] theorem getLow_setHigh (v : Word) (b : Byte) : getLow (setHigh v b) = getLow v := by simp [setHigh]
@[simp] theorem getHigh_setLow (v : Word) (b : Byte) : getHigh (setLow v b) = getHigh v := by simp [setLow]
@[simp] theorem getLow_setLow (v : Word) (b : Byte) : getLow (setLow v b) = b := by simp [setLow]

/-- Two values with equal bytes are equal. -/
theorem eq_of_bytes {v w : Word} (hh : getHigh v = getHigh w) (hl : getLow v = getLow w) : v = w := by
  rw [← joinBytes_getHigh_getLow v, ← joinBytes_getHigh_getLow w, hh, hl]

@[simp] theorem setHigh_setLow (v : Word) (l h : Byte) : setHigh (setLow v l) h = joinBytes h l := by
  simp [setHigh]

@[simp] theorem setLow_setHigh (v : Word) (l h : Byte) : setLow (setHigh v h) l = joinBytes h l := by
  simp [setLow]

/-- The low byte of a masked AF (R23). -/
@[simp] theorem getLow_and_af (v : Word) : getLow (v &&& 0xFFF0) = getLow v &&& 0xF0 := by
  apply BitVec.eq_of_getElem_eq
  intro i hi
  have : i = 0 ∨ i = 1 ∨ i = 2 ∨ i = 3 ∨ i = 4 ∨ i = 5 ∨ i = 6 ∨ i = 7 := by omega
  rcases this with h | h | h | h | h | h | h | h <;> subst h <;> simp [getLow]

/-- The high byte of a masked AF (R23). -/
@[simp] theorem getHigh_and_af (v : Word) : getHigh (v &&& 0xFFF0) = getHigh v := by
  apply BitVec.eq_of_getElem_eq
  intro i hi
  have : i = 0 ∨ i = 1 ∨ i = 2 ∨ i = 3 ∨ i = 4 ∨ i = 5 ∨ i = 6 ∨ i = 7 := by omega
  rcases this with h | h | h | h | h | h | h | h <;> subst h <;> simp [getHigh]

end Sys2Proof
end

