-- ==== Sys2Proof/Laws/Decode.lean ====
section
/-! SUPPORT. The opcode map and the decoder (spec/30_encoding): the decoder's cases by the entry of the first byte, and the
agreement of the map (R78) with the bit patterns (R77), byte by byte. -/

namespace Sys2Proof

theorem decode_op {op : Byte} {i : Instr} (h : opcodeEntry op = some (.op i)) (rest : List Byte) :
    decode (op :: rest) = .instr i rest := by simp [decode, h]

theorem decode_d8 {op : Byte} {dst : ImmDst} (h : opcodeEntry op = some (.opD8 dst)) (d8 : Byte) (rest : List Byte) :
    decode (op :: d8 :: rest) = .instr (instrD8 dst d8) rest := by simp [decode, h]

theorem decode_d16 {op : Byte} {dst : Pair} (h : opcodeEntry op = some (.opD16 dst)) (d16 : Word) (rest : List Byte) :
    decode (op :: getLow d16 :: getHigh d16 :: rest) = .instr (instrD16 dst d16) rest := by simp [decode, h]

/-- Every byte has an entry (40_step_dispatch R93). -/
theorem opcodeEntry_total : ∀ op : Byte, (opcodeEntry op).isSome = true := by decide +kernel

/-- The instruction of an entry, with immediates left at zero. -/
def Entry.instr0 : Entry → Instr
  | .op i => i
  | .opD8 dst => instrD8 dst 0
  | .opD16 dst => instrD16 dst 0

/-- The map (R78) puts each entry at the byte that the bit patterns (R77) give its instruction. -/
theorem opcode_of_opcodeEntry :
    ∀ op : Byte, (opcodeEntry op).map (fun e => e.instr0.form.opcode) = some op := by decide +kernel

/-- The opcode byte does not depend on the immediate. -/
theorem opcode_instrD8 (dst : ImmDst) (d8 : Byte) : (instrD8 dst d8).form.opcode = (instrD8 dst 0).form.opcode := by
  cases dst with
  | atHL => rfl
  | reg r => cases r <;> rfl

theorem opcode_instrD16 (dst : Pair) (d16 : Word) : (instrD16 dst d16).form.opcode = (instrD16 dst 0).form.opcode := by
  cases dst <;> rfl

theorem immediateBytes_instrD8 (dst : ImmDst) (d8 : Byte) : (instrD8 dst d8).form.immediateBytes = [d8] := by
  cases dst with
  | atHL => rfl
  | reg r => cases r <;> rfl

theorem immediateBytes_instrD16 (dst : Pair) (d16 : Word) :
    (instrD16 dst d16).form.immediateBytes = [getLow d16, getHigh d16] := by cases dst <;> rfl

/-- An entry of format `OP` has no immediate. -/
theorem immediateBytes_op : ∀ op : Byte, (match opcodeEntry op with
    | some (.op i) => decide (i.form.immediateBytes = [])
    | _ => true) = true := by decide +kernel

/-- The undecoded entries are at the bytes of R79, each with its own byte. -/
theorem opcodeEntry_undecoded : ∀ op : Byte, (match opcodeEntry op with
    | some (.op i) => decide (i.form = .undecoded op)
    | _ => false) = isUndecodedOpcode op := by decide +kernel

end Sys2Proof
end

