-- ==== Sys2Proof/Laws/State.lean ====
section
/-! SUPPORT. One lemma per field for each update of the state, so that no later proof unfolds a record update. -/

namespace Sys2Proof.Machine

@[simp] theorem State.advancePc_af (s : State) : (s.advancePc).af = s.af := rfl
@[simp] theorem State.advancePc_bc (s : State) : (s.advancePc).bc = s.bc := rfl
@[simp] theorem State.advancePc_de (s : State) : (s.advancePc).de = s.de := rfl
@[simp] theorem State.advancePc_hl (s : State) : (s.advancePc).hl = s.hl := rfl
@[simp] theorem State.advancePc_sp (s : State) : (s.advancePc).sp = s.sp := rfl
@[simp] theorem State.advancePc_pc (s : State) : (s.advancePc).pc = s.pc + 1 := rfl
@[simp] theorem State.advancePc_halted (s : State) : (s.advancePc).halted = s.halted := rfl
@[simp] theorem State.advancePc_cycles (s : State) : (s.advancePc).cycles = s.cycles := rfl
@[simp] theorem State.advancePc_status (s : State) : (s.advancePc).status = s.status := rfl
@[simp] theorem State.advancePc_overlayEnabled (s : State) : (s.advancePc).overlayEnabled = s.overlayEnabled := rfl
@[simp] theorem State.advancePc_rom (s : State) : (s.advancePc).rom = s.rom := rfl
@[simp] theorem State.advancePc_boot (s : State) : (s.advancePc).boot = s.boot := rfl
@[simp] theorem State.advancePc_vram (s : State) : (s.advancePc).vram = s.vram := rfl
@[simp] theorem State.advancePc_eram (s : State) : (s.advancePc).eram = s.eram := rfl
@[simp] theorem State.advancePc_wram (s : State) : (s.advancePc).wram = s.wram := rfl
@[simp] theorem State.advancePc_hram (s : State) : (s.advancePc).hram = s.hram := rfl
@[simp] theorem State.advancePc_params (s : State) : (s.advancePc).params = s.params := rfl

@[simp] theorem State.decSp_af (s : State) : (s.decSp).af = s.af := rfl
@[simp] theorem State.decSp_bc (s : State) : (s.decSp).bc = s.bc := rfl
@[simp] theorem State.decSp_de (s : State) : (s.decSp).de = s.de := rfl
@[simp] theorem State.decSp_hl (s : State) : (s.decSp).hl = s.hl := rfl
@[simp] theorem State.decSp_sp (s : State) : (s.decSp).sp = s.sp - 1 := rfl
@[simp] theorem State.decSp_pc (s : State) : (s.decSp).pc = s.pc := rfl
@[simp] theorem State.decSp_halted (s : State) : (s.decSp).halted = s.halted := rfl
@[simp] theorem State.decSp_cycles (s : State) : (s.decSp).cycles = s.cycles := rfl
@[simp] theorem State.decSp_status (s : State) : (s.decSp).status = s.status := rfl
@[simp] theorem State.decSp_overlayEnabled (s : State) : (s.decSp).overlayEnabled = s.overlayEnabled := rfl
@[simp] theorem State.decSp_rom (s : State) : (s.decSp).rom = s.rom := rfl
@[simp] theorem State.decSp_boot (s : State) : (s.decSp).boot = s.boot := rfl
@[simp] theorem State.decSp_vram (s : State) : (s.decSp).vram = s.vram := rfl
@[simp] theorem State.decSp_eram (s : State) : (s.decSp).eram = s.eram := rfl
@[simp] theorem State.decSp_wram (s : State) : (s.decSp).wram = s.wram := rfl
@[simp] theorem State.decSp_hram (s : State) : (s.decSp).hram = s.hram := rfl
@[simp] theorem State.decSp_params (s : State) : (s.decSp).params = s.params := rfl

@[simp] theorem State.incSp_af (s : State) : (s.incSp).af = s.af := rfl
@[simp] theorem State.incSp_bc (s : State) : (s.incSp).bc = s.bc := rfl
@[simp] theorem State.incSp_de (s : State) : (s.incSp).de = s.de := rfl
@[simp] theorem State.incSp_hl (s : State) : (s.incSp).hl = s.hl := rfl
@[simp] theorem State.incSp_sp (s : State) : (s.incSp).sp = s.sp + 1 := rfl
@[simp] theorem State.incSp_pc (s : State) : (s.incSp).pc = s.pc := rfl
@[simp] theorem State.incSp_halted (s : State) : (s.incSp).halted = s.halted := rfl
@[simp] theorem State.incSp_cycles (s : State) : (s.incSp).cycles = s.cycles := rfl
@[simp] theorem State.incSp_status (s : State) : (s.incSp).status = s.status := rfl
@[simp] theorem State.incSp_overlayEnabled (s : State) : (s.incSp).overlayEnabled = s.overlayEnabled := rfl
@[simp] theorem State.incSp_rom (s : State) : (s.incSp).rom = s.rom := rfl
@[simp] theorem State.incSp_boot (s : State) : (s.incSp).boot = s.boot := rfl
@[simp] theorem State.incSp_vram (s : State) : (s.incSp).vram = s.vram := rfl
@[simp] theorem State.incSp_eram (s : State) : (s.incSp).eram = s.eram := rfl
@[simp] theorem State.incSp_wram (s : State) : (s.incSp).wram = s.wram := rfl
@[simp] theorem State.incSp_hram (s : State) : (s.incSp).hram = s.hram := rfl
@[simp] theorem State.incSp_params (s : State) : (s.incSp).params = s.params := rfl

@[simp] theorem State.addCycles_af (s : State) (n : Nat) : (s.addCycles n).af = s.af := rfl
@[simp] theorem State.addCycles_bc (s : State) (n : Nat) : (s.addCycles n).bc = s.bc := rfl
@[simp] theorem State.addCycles_de (s : State) (n : Nat) : (s.addCycles n).de = s.de := rfl
@[simp] theorem State.addCycles_hl (s : State) (n : Nat) : (s.addCycles n).hl = s.hl := rfl
@[simp] theorem State.addCycles_sp (s : State) (n : Nat) : (s.addCycles n).sp = s.sp := rfl
@[simp] theorem State.addCycles_pc (s : State) (n : Nat) : (s.addCycles n).pc = s.pc := rfl
@[simp] theorem State.addCycles_halted (s : State) (n : Nat) : (s.addCycles n).halted = s.halted := rfl
@[simp] theorem State.addCycles_cycles (s : State) (n : Nat) : (s.addCycles n).cycles = s.cycles + n := rfl
@[simp] theorem State.addCycles_status (s : State) (n : Nat) : (s.addCycles n).status = s.status := rfl
@[simp] theorem State.addCycles_overlayEnabled (s : State) (n : Nat) : (s.addCycles n).overlayEnabled = s.overlayEnabled := rfl
@[simp] theorem State.addCycles_rom (s : State) (n : Nat) : (s.addCycles n).rom = s.rom := rfl
@[simp] theorem State.addCycles_boot (s : State) (n : Nat) : (s.addCycles n).boot = s.boot := rfl
@[simp] theorem State.addCycles_vram (s : State) (n : Nat) : (s.addCycles n).vram = s.vram := rfl
@[simp] theorem State.addCycles_eram (s : State) (n : Nat) : (s.addCycles n).eram = s.eram := rfl
@[simp] theorem State.addCycles_wram (s : State) (n : Nat) : (s.addCycles n).wram = s.wram := rfl
@[simp] theorem State.addCycles_hram (s : State) (n : Nat) : (s.addCycles n).hram = s.hram := rfl
@[simp] theorem State.addCycles_params (s : State) (n : Nat) : (s.addCycles n).params = s.params := rfl

@[simp] theorem State.takeFault_af (s : State) (c : Cause) : (takeFault c s).af = s.af := rfl
@[simp] theorem State.takeFault_bc (s : State) (c : Cause) : (takeFault c s).bc = s.bc := rfl
@[simp] theorem State.takeFault_de (s : State) (c : Cause) : (takeFault c s).de = s.de := rfl
@[simp] theorem State.takeFault_hl (s : State) (c : Cause) : (takeFault c s).hl = s.hl := rfl
@[simp] theorem State.takeFault_sp (s : State) (c : Cause) : (takeFault c s).sp = s.sp := rfl
@[simp] theorem State.takeFault_pc (s : State) (c : Cause) : (takeFault c s).pc = s.pc := rfl
@[simp] theorem State.takeFault_halted (s : State) (c : Cause) : (takeFault c s).halted = s.halted := rfl
@[simp] theorem State.takeFault_cycles (s : State) (c : Cause) : (takeFault c s).cycles = s.cycles := rfl
@[simp] theorem State.takeFault_status (s : State) (c : Cause) : (takeFault c s).status = .faulted c := rfl
@[simp] theorem State.takeFault_overlayEnabled (s : State) (c : Cause) : (takeFault c s).overlayEnabled = s.overlayEnabled := rfl
@[simp] theorem State.takeFault_rom (s : State) (c : Cause) : (takeFault c s).rom = s.rom := rfl
@[simp] theorem State.takeFault_boot (s : State) (c : Cause) : (takeFault c s).boot = s.boot := rfl
@[simp] theorem State.takeFault_vram (s : State) (c : Cause) : (takeFault c s).vram = s.vram := rfl
@[simp] theorem State.takeFault_eram (s : State) (c : Cause) : (takeFault c s).eram = s.eram := rfl
@[simp] theorem State.takeFault_wram (s : State) (c : Cause) : (takeFault c s).wram = s.wram := rfl
@[simp] theorem State.takeFault_hram (s : State) (c : Cause) : (takeFault c s).hram = s.hram := rfl
@[simp] theorem State.takeFault_params (s : State) (c : Cause) : (takeFault c s).params = s.params := rfl

@[simp] theorem State.writeF_af (s : State) (v : Byte) : (s.writeF v).af = setLow s.af (v &&& 0xF0) := rfl
@[simp] theorem State.writeF_bc (s : State) (v : Byte) : (s.writeF v).bc = s.bc := rfl
@[simp] theorem State.writeF_de (s : State) (v : Byte) : (s.writeF v).de = s.de := rfl
@[simp] theorem State.writeF_hl (s : State) (v : Byte) : (s.writeF v).hl = s.hl := rfl
@[simp] theorem State.writeF_sp (s : State) (v : Byte) : (s.writeF v).sp = s.sp := rfl
@[simp] theorem State.writeF_pc (s : State) (v : Byte) : (s.writeF v).pc = s.pc := rfl
@[simp] theorem State.writeF_halted (s : State) (v : Byte) : (s.writeF v).halted = s.halted := rfl
@[simp] theorem State.writeF_cycles (s : State) (v : Byte) : (s.writeF v).cycles = s.cycles := rfl
@[simp] theorem State.writeF_status (s : State) (v : Byte) : (s.writeF v).status = s.status := rfl
@[simp] theorem State.writeF_overlayEnabled (s : State) (v : Byte) : (s.writeF v).overlayEnabled = s.overlayEnabled := rfl
@[simp] theorem State.writeF_rom (s : State) (v : Byte) : (s.writeF v).rom = s.rom := rfl
@[simp] theorem State.writeF_boot (s : State) (v : Byte) : (s.writeF v).boot = s.boot := rfl
@[simp] theorem State.writeF_vram (s : State) (v : Byte) : (s.writeF v).vram = s.vram := rfl
@[simp] theorem State.writeF_eram (s : State) (v : Byte) : (s.writeF v).eram = s.eram := rfl
@[simp] theorem State.writeF_wram (s : State) (v : Byte) : (s.writeF v).wram = s.wram := rfl
@[simp] theorem State.writeF_hram (s : State) (v : Byte) : (s.writeF v).hram = s.hram := rfl
@[simp] theorem State.writeF_params (s : State) (v : Byte) : (s.writeF v).params = s.params := rfl

@[simp] theorem State.resetFlags_af (s : State) (fs : List Flag) : (s.resetFlags fs).af = setLow s.af (flagByte fs &&& 0xF0) := rfl
@[simp] theorem State.resetFlags_bc (s : State) (fs : List Flag) : (s.resetFlags fs).bc = s.bc := rfl
@[simp] theorem State.resetFlags_de (s : State) (fs : List Flag) : (s.resetFlags fs).de = s.de := rfl
@[simp] theorem State.resetFlags_hl (s : State) (fs : List Flag) : (s.resetFlags fs).hl = s.hl := rfl
@[simp] theorem State.resetFlags_sp (s : State) (fs : List Flag) : (s.resetFlags fs).sp = s.sp := rfl
@[simp] theorem State.resetFlags_pc (s : State) (fs : List Flag) : (s.resetFlags fs).pc = s.pc := rfl
@[simp] theorem State.resetFlags_halted (s : State) (fs : List Flag) : (s.resetFlags fs).halted = s.halted := rfl
@[simp] theorem State.resetFlags_cycles (s : State) (fs : List Flag) : (s.resetFlags fs).cycles = s.cycles := rfl
@[simp] theorem State.resetFlags_status (s : State) (fs : List Flag) : (s.resetFlags fs).status = s.status := rfl
@[simp] theorem State.resetFlags_overlayEnabled (s : State) (fs : List Flag) : (s.resetFlags fs).overlayEnabled = s.overlayEnabled := rfl
@[simp] theorem State.resetFlags_rom (s : State) (fs : List Flag) : (s.resetFlags fs).rom = s.rom := rfl
@[simp] theorem State.resetFlags_boot (s : State) (fs : List Flag) : (s.resetFlags fs).boot = s.boot := rfl
@[simp] theorem State.resetFlags_vram (s : State) (fs : List Flag) : (s.resetFlags fs).vram = s.vram := rfl
@[simp] theorem State.resetFlags_eram (s : State) (fs : List Flag) : (s.resetFlags fs).eram = s.eram := rfl
@[simp] theorem State.resetFlags_wram (s : State) (fs : List Flag) : (s.resetFlags fs).wram = s.wram := rfl
@[simp] theorem State.resetFlags_hram (s : State) (fs : List Flag) : (s.resetFlags fs).hram = s.hram := rfl
@[simp] theorem State.resetFlags_params (s : State) (fs : List Flag) : (s.resetFlags fs).params = s.params := rfl

@[simp] theorem State.writeReg8_sp (s : State) (r : Reg8) (v : Byte) : (s.writeReg8 r v).sp = s.sp := by cases r <;> rfl
@[simp] theorem State.writeReg8_pc (s : State) (r : Reg8) (v : Byte) : (s.writeReg8 r v).pc = s.pc := by cases r <;> rfl
@[simp] theorem State.writeReg8_halted (s : State) (r : Reg8) (v : Byte) : (s.writeReg8 r v).halted = s.halted := by cases r <;> rfl
@[simp] theorem State.writeReg8_cycles (s : State) (r : Reg8) (v : Byte) : (s.writeReg8 r v).cycles = s.cycles := by cases r <;> rfl
@[simp] theorem State.writeReg8_status (s : State) (r : Reg8) (v : Byte) : (s.writeReg8 r v).status = s.status := by cases r <;> rfl
@[simp] theorem State.writeReg8_overlayEnabled (s : State) (r : Reg8) (v : Byte) : (s.writeReg8 r v).overlayEnabled = s.overlayEnabled := by cases r <;> rfl
@[simp] theorem State.writeReg8_rom (s : State) (r : Reg8) (v : Byte) : (s.writeReg8 r v).rom = s.rom := by cases r <;> rfl
@[simp] theorem State.writeReg8_boot (s : State) (r : Reg8) (v : Byte) : (s.writeReg8 r v).boot = s.boot := by cases r <;> rfl
@[simp] theorem State.writeReg8_vram (s : State) (r : Reg8) (v : Byte) : (s.writeReg8 r v).vram = s.vram := by cases r <;> rfl
@[simp] theorem State.writeReg8_eram (s : State) (r : Reg8) (v : Byte) : (s.writeReg8 r v).eram = s.eram := by cases r <;> rfl
@[simp] theorem State.writeReg8_wram (s : State) (r : Reg8) (v : Byte) : (s.writeReg8 r v).wram = s.wram := by cases r <;> rfl
@[simp] theorem State.writeReg8_hram (s : State) (r : Reg8) (v : Byte) : (s.writeReg8 r v).hram = s.hram := by cases r <;> rfl
@[simp] theorem State.writeReg8_params (s : State) (r : Reg8) (v : Byte) : (s.writeReg8 r v).params = s.params := by cases r <;> rfl

@[simp] theorem State.writePair_af (s : State) (r : Pair) (v : Word) : (s.writePair r v).af = s.af := by cases r <;> rfl
@[simp] theorem State.writePair_pc (s : State) (r : Pair) (v : Word) : (s.writePair r v).pc = s.pc := by cases r <;> rfl
@[simp] theorem State.writePair_halted (s : State) (r : Pair) (v : Word) : (s.writePair r v).halted = s.halted := by cases r <;> rfl
@[simp] theorem State.writePair_cycles (s : State) (r : Pair) (v : Word) : (s.writePair r v).cycles = s.cycles := by cases r <;> rfl
@[simp] theorem State.writePair_status (s : State) (r : Pair) (v : Word) : (s.writePair r v).status = s.status := by cases r <;> rfl
@[simp] theorem State.writePair_overlayEnabled (s : State) (r : Pair) (v : Word) : (s.writePair r v).overlayEnabled = s.overlayEnabled := by cases r <;> rfl
@[simp] theorem State.writePair_rom (s : State) (r : Pair) (v : Word) : (s.writePair r v).rom = s.rom := by cases r <;> rfl
@[simp] theorem State.writePair_boot (s : State) (r : Pair) (v : Word) : (s.writePair r v).boot = s.boot := by cases r <;> rfl
@[simp] theorem State.writePair_vram (s : State) (r : Pair) (v : Word) : (s.writePair r v).vram = s.vram := by cases r <;> rfl
@[simp] theorem State.writePair_eram (s : State) (r : Pair) (v : Word) : (s.writePair r v).eram = s.eram := by cases r <;> rfl
@[simp] theorem State.writePair_wram (s : State) (r : Pair) (v : Word) : (s.writePair r v).wram = s.wram := by cases r <;> rfl
@[simp] theorem State.writePair_hram (s : State) (r : Pair) (v : Word) : (s.writePair r v).hram = s.hram := by cases r <;> rfl
@[simp] theorem State.writePair_params (s : State) (r : Pair) (v : Word) : (s.writePair r v).params = s.params := by cases r <;> rfl

@[simp] theorem State.writeStackPair_sp (s : State) (r : StackPair) (v : Word) : (s.writeStackPair r v).sp = s.sp := by cases r <;> rfl
@[simp] theorem State.writeStackPair_pc (s : State) (r : StackPair) (v : Word) : (s.writeStackPair r v).pc = s.pc := by cases r <;> rfl
@[simp] theorem State.writeStackPair_halted (s : State) (r : StackPair) (v : Word) : (s.writeStackPair r v).halted = s.halted := by cases r <;> rfl
@[simp] theorem State.writeStackPair_cycles (s : State) (r : StackPair) (v : Word) : (s.writeStackPair r v).cycles = s.cycles := by cases r <;> rfl
@[simp] theorem State.writeStackPair_status (s : State) (r : StackPair) (v : Word) : (s.writeStackPair r v).status = s.status := by cases r <;> rfl
@[simp] theorem State.writeStackPair_overlayEnabled (s : State) (r : StackPair) (v : Word) : (s.writeStackPair r v).overlayEnabled = s.overlayEnabled := by cases r <;> rfl
@[simp] theorem State.writeStackPair_rom (s : State) (r : StackPair) (v : Word) : (s.writeStackPair r v).rom = s.rom := by cases r <;> rfl
@[simp] theorem State.writeStackPair_boot (s : State) (r : StackPair) (v : Word) : (s.writeStackPair r v).boot = s.boot := by cases r <;> rfl
@[simp] theorem State.writeStackPair_vram (s : State) (r : StackPair) (v : Word) : (s.writeStackPair r v).vram = s.vram := by cases r <;> rfl
@[simp] theorem State.writeStackPair_eram (s : State) (r : StackPair) (v : Word) : (s.writeStackPair r v).eram = s.eram := by cases r <;> rfl
@[simp] theorem State.writeStackPair_wram (s : State) (r : StackPair) (v : Word) : (s.writeStackPair r v).wram = s.wram := by cases r <;> rfl
@[simp] theorem State.writeStackPair_hram (s : State) (r : StackPair) (v : Word) : (s.writeStackPair r v).hram = s.hram := by cases r <;> rfl
@[simp] theorem State.writeStackPair_params (s : State) (r : StackPair) (v : Word) : (s.writeStackPair r v).params = s.params := by cases r <;> rfl

@[simp] theorem State.loadLowHalf_af (s : State) (r : Pair) (b : Byte) : (s.loadLowHalf r b).af = s.af := by cases r <;> rfl
@[simp] theorem State.loadLowHalf_halted (s : State) (r : Pair) (b : Byte) : (s.loadLowHalf r b).halted = s.halted := by cases r <;> rfl
@[simp] theorem State.loadLowHalf_cycles (s : State) (r : Pair) (b : Byte) : (s.loadLowHalf r b).cycles = s.cycles := by cases r <;> rfl
@[simp] theorem State.loadLowHalf_status (s : State) (r : Pair) (b : Byte) : (s.loadLowHalf r b).status = s.status := by cases r <;> rfl
@[simp] theorem State.loadLowHalf_overlayEnabled (s : State) (r : Pair) (b : Byte) : (s.loadLowHalf r b).overlayEnabled = s.overlayEnabled := by cases r <;> rfl
@[simp] theorem State.loadLowHalf_rom (s : State) (r : Pair) (b : Byte) : (s.loadLowHalf r b).rom = s.rom := by cases r <;> rfl
@[simp] theorem State.loadLowHalf_boot (s : State) (r : Pair) (b : Byte) : (s.loadLowHalf r b).boot = s.boot := by cases r <;> rfl
@[simp] theorem State.loadLowHalf_vram (s : State) (r : Pair) (b : Byte) : (s.loadLowHalf r b).vram = s.vram := by cases r <;> rfl
@[simp] theorem State.loadLowHalf_eram (s : State) (r : Pair) (b : Byte) : (s.loadLowHalf r b).eram = s.eram := by cases r <;> rfl
@[simp] theorem State.loadLowHalf_wram (s : State) (r : Pair) (b : Byte) : (s.loadLowHalf r b).wram = s.wram := by cases r <;> rfl
@[simp] theorem State.loadLowHalf_hram (s : State) (r : Pair) (b : Byte) : (s.loadLowHalf r b).hram = s.hram := by cases r <;> rfl
@[simp] theorem State.loadLowHalf_params (s : State) (r : Pair) (b : Byte) : (s.loadLowHalf r b).params = s.params := by cases r <;> rfl

@[simp] theorem State.loadHighHalf_af (s : State) (r : Pair) (b : Byte) : (s.loadHighHalf r b).af = s.af := by cases r <;> rfl
@[simp] theorem State.loadHighHalf_halted (s : State) (r : Pair) (b : Byte) : (s.loadHighHalf r b).halted = s.halted := by cases r <;> rfl
@[simp] theorem State.loadHighHalf_cycles (s : State) (r : Pair) (b : Byte) : (s.loadHighHalf r b).cycles = s.cycles := by cases r <;> rfl
@[simp] theorem State.loadHighHalf_status (s : State) (r : Pair) (b : Byte) : (s.loadHighHalf r b).status = s.status := by cases r <;> rfl
@[simp] theorem State.loadHighHalf_overlayEnabled (s : State) (r : Pair) (b : Byte) : (s.loadHighHalf r b).overlayEnabled = s.overlayEnabled := by cases r <;> rfl
@[simp] theorem State.loadHighHalf_rom (s : State) (r : Pair) (b : Byte) : (s.loadHighHalf r b).rom = s.rom := by cases r <;> rfl
@[simp] theorem State.loadHighHalf_boot (s : State) (r : Pair) (b : Byte) : (s.loadHighHalf r b).boot = s.boot := by cases r <;> rfl
@[simp] theorem State.loadHighHalf_vram (s : State) (r : Pair) (b : Byte) : (s.loadHighHalf r b).vram = s.vram := by cases r <;> rfl
@[simp] theorem State.loadHighHalf_eram (s : State) (r : Pair) (b : Byte) : (s.loadHighHalf r b).eram = s.eram := by cases r <;> rfl
@[simp] theorem State.loadHighHalf_wram (s : State) (r : Pair) (b : Byte) : (s.loadHighHalf r b).wram = s.wram := by cases r <;> rfl
@[simp] theorem State.loadHighHalf_hram (s : State) (r : Pair) (b : Byte) : (s.loadHighHalf r b).hram = s.hram := by cases r <;> rfl
@[simp] theorem State.loadHighHalf_params (s : State) (r : Pair) (b : Byte) : (s.loadHighHalf r b).params = s.params := by cases r <;> rfl

@[simp] theorem State.loadLowHalf_pc (s : State) (r : Pair) (b : Byte) : (s.loadLowHalf r b).pc = s.pc + 1 := by cases r <;> rfl
@[simp] theorem State.loadHighHalf_pc (s : State) (r : Pair) (b : Byte) : (s.loadHighHalf r b).pc = s.pc + 1 := by cases r <;> rfl

end Sys2Proof.Machine
end

