-- ==== Sys2Proof/Laws/Registers.lean ====
section
/-! SUPPORT. What a register read gives after each register write (spec/10_state R12, R13). -/

namespace Sys2Proof.Machine

/-- The aliasing of the byte registers (R13): a write is read back, and changes no other byte register. -/
theorem State.readReg8_writeReg8 (s : State) (r q : Reg8) (v : Byte) :
    (s.writeReg8 r v).readReg8 q = if q = r then v else s.readReg8 q := by
  cases r <;> cases q <;> simp [State.writeReg8, State.readReg8]

@[simp] theorem State.readReg8_writeReg8_self (s : State) (r : Reg8) (v : Byte) :
    (s.writeReg8 r v).readReg8 r = v := by simp [State.readReg8_writeReg8]

@[simp] theorem State.readF_writeReg8 (s : State) (r : Reg8) (v : Byte) : (s.writeReg8 r v).readF = s.readF := by
  cases r <;> simp [State.writeReg8, State.readF]

@[simp] theorem State.readReg8_writeF (s : State) (r : Reg8) (v : Byte) : (s.writeF v).readReg8 r = s.readReg8 r := by
  cases r <;> simp [State.writeF, State.readReg8]

@[simp] theorem State.readReg8_resetFlags (s : State) (r : Reg8) (fs : List Flag) :
    (s.resetFlags fs).readReg8 r = s.readReg8 r := by simp [State.resetFlags]

@[simp] theorem State.readF_writeF (s : State) (v : Byte) : (s.writeF v).readF = v &&& 0xF0 := by
  simp [State.writeF, State.readF]

@[simp] theorem State.readReg8_addCycles (s : State) (n : Nat) (r : Reg8) : (s.addCycles n).readReg8 r = s.readReg8 r := by
  cases r <;> rfl
@[simp] theorem State.readPair_addCycles (s : State) (n : Nat) (r : Pair) : (s.addCycles n).readPair r = s.readPair r := by
  cases r <;> rfl
@[simp] theorem State.readStackPair_addCycles (s : State) (n : Nat) (r : StackPair) :
    (s.addCycles n).readStackPair r = s.readStackPair r := by cases r <;> rfl
@[simp] theorem State.readF_addCycles (s : State) (n : Nat) : (s.addCycles n).readF = s.readF := rfl
@[simp] theorem State.flag_addCycles (s : State) (n : Nat) (f : Flag) : (s.addCycles n).flag f = s.flag f := rfl
@[simp] theorem State.readReg8_advancePc (s : State) (r : Reg8) : s.advancePc.readReg8 r = s.readReg8 r := by
  cases r <;> rfl
@[simp] theorem State.readF_advancePc (s : State) : s.advancePc.readF = s.readF := rfl
@[simp] theorem State.readReg8_takeFault (s : State) (c : Cause) (r : Reg8) : (takeFault c s).readReg8 r = s.readReg8 r := by
  cases r <;> rfl
@[simp] theorem State.readF_takeFault (s : State) (c : Cause) : (takeFault c s).readF = s.readF := rfl

theorem State.readPair_writePair (s : State) (r q : Pair) (v : Word) :
    (s.writePair r v).readPair q = if q = r then v else s.readPair q := by
  cases r <;> cases q <;> simp [State.writePair, State.readPair]

@[simp] theorem State.readF_writePair (s : State) (r : Pair) (v : Word) : (s.writePair r v).readF = s.readF := by
  cases r <;> rfl

theorem State.readStackPair_writeStackPair (s : State) (r q : StackPair) (v : Word) :
    (s.writeStackPair r v).readStackPair q
      = if q = r then (if r = .af then v &&& 0xFFF0 else v) else s.readStackPair q := by
  cases r <;> cases q <;> simp [State.writeStackPair, State.readStackPair]

/-- Both halves of `LD rr,d16` together load the whole value (42_load16_stack R120). -/
theorem State.loadHalves (s : State) (r : Pair) (d : Word) :
    (s.loadLowHalf r (getLow d)).loadHighHalf r (getHigh d) = { s.writePair r d with pc := s.pc + 1 + 1 } := by
  cases r <;>
    simp [State.loadLowHalf, State.loadHighHalf, State.writePair, State.readPair, State.advancePc]

end Sys2Proof.Machine
end

