-- ==== Sys2Proof/Laws/Flags.lean ====
section
/-! SUPPORT. The flag operations (spec/10_state R18 to R23). -/

namespace Sys2Proof.Machine

/-- The or of masks has a zero low nibble (R23). -/
theorem flagByte_and_low (fs : List Flag) : flagByte fs &&& 0x0F = 0 := by
  induction fs with
  | nil => rfl
  | cons f fs ih =>
    have : (f.mask ||| flagByte fs) &&& 0x0F = (f.mask &&& 0x0F) ||| (flagByte fs &&& 0x0F) := by
      ext i
      simp [Bool.and_or_distrib_right]
    rw [flagByte, this, ih]
    cases f <;> rfl

/-- Every byte stored in F has a zero low nibble (R23). -/
theorem masked_and_low (v : Byte) : v &&& 0xF0 &&& 0x0F = 0 := by
  rw [BitVec.and_assoc]
  simp

/-- A byte with a zero low nibble is stored in F whole. -/
theorem masked_of_low : ∀ v : Byte, v &&& 0x0F = 0 → v &&& 0xF0 = v := by decide +kernel

@[simp] theorem State.readF_resetFlags (s : State) (fs : List Flag) : (s.resetFlags fs).readF = flagByte fs := by
  rw [State.resetFlags, State.readF_writeF]
  exact masked_of_low _ (flagByte_and_low fs)

/-- A flag of a set of flags is in it or not. -/
theorem flagByte_and_mask (fs : List Flag) (g : Flag) : decide (flagByte fs &&& g.mask ≠ 0) = decide (g ∈ fs) := by
  induction fs with
  | nil => cases g <;> rfl
  | cons f fs ih =>
    have hd : (f.mask ||| flagByte fs) &&& g.mask = (f.mask &&& g.mask) ||| (flagByte fs &&& g.mask) := by
      ext i
      simp [Bool.and_or_distrib_right]
    have hm : f.mask &&& g.mask = 0 ↔ g ≠ f := by cases f <;> cases g <;> decide
    rw [decide_eq_decide] at ih ⊢
    rw [flagByte, hd, List.mem_cons, ← ih]
    refine (not_congr BitVec.or_eq_zero_iff).trans (Decidable.not_and_iff_not_or_not.trans (or_congr ?_ Iff.rfl))
    exact (not_congr hm).trans Decidable.not_not

/-- What each flag is after `reset_flags` (R22). -/
@[simp] theorem State.flag_resetFlags (s : State) (fs : List Flag) (g : Flag) :
    (s.resetFlags fs).flag g = decide (g ∈ fs) := by
  rw [State.flag, State.readF_resetFlags, flagByte_and_mask]

/-- A flag depends on F alone. -/
theorem State.flag_congr {s t : State} (h : t.readF = s.readF) (f : Flag) : t.flag f = s.flag f := by
  simp [State.flag, h]

/-- The flags of `INC r` (43_incdec R130). -/
theorem mem_incFlags (v : Byte) (carry : Bool) (g : Flag) :
    g ∈ incFlags v carry ↔ match g with
      | .z => v = 0
      | .n => False
      | .h => v &&& 0x0F = 0
      | .c => carry = true := by
  cases g <;> simp only [incFlags, List.mem_append] <;> split_ifs <;> simp_all

/-- The flags of `DEC r` (43_incdec R131). -/
theorem mem_decFlags (v : Byte) (carry : Bool) (g : Flag) :
    g ∈ decFlags v carry ↔ match g with
      | .z => v = 0
      | .n => True
      | .h => v &&& 0x0F = 0x0F
      | .c => carry = true := by
  cases g <;> simp only [decFlags, List.mem_append] <;> split_ifs <;> simp_all

end Sys2Proof.Machine
end

