-- ==== Sys2Proof/Laws/Memory.lean ====
section
/-! SUPPORT. The laws of a store: read after write, the frame of a write, and the canonical form it keeps. -/

namespace Sys2Proof

/-- A write leaves every other index as it was. -/
theorem Memory.read_write_other (m : Memory) {k j : Nat} (v : Byte) (h : j ≠ k) :
    Memory.read (Memory.write m k v) j = Memory.read m j := by
  induction m with
  | nil => by_cases hv : v = Memory.unlisted <;> simp [Memory.write, Memory.read, hv, Ne.symm h]
  | cons e m ih =>
    obtain ⟨i, w⟩ := e
    by_cases hlt : k < i
    · by_cases hv : v = Memory.unlisted <;> simp [Memory.write, Memory.read, hlt, hv, Ne.symm h]
    · by_cases heq : k = i
      · subst heq
        by_cases hv : v = Memory.unlisted <;> simp [Memory.write, Memory.read, hv, Ne.symm h]
      · rw [Memory.write, if_neg hlt, if_neg heq, Memory.read, Memory.read, ih]

/-- Below the first index nothing is listed. -/
theorem Memory.read_below {m : Memory} {lo hi k : Nat} (hm : Memory.canonicalFrom lo hi m = true) (hk : k < lo) :
    Memory.read m k = Memory.unlisted := by
  induction m generalizing lo with
  | nil => rfl
  | cons e m ih =>
    obtain ⟨i, w⟩ := e
    simp only [Memory.canonicalFrom, Bool.and_eq_true, decide_eq_true_eq] at hm
    have hik : i ≠ k := by omega
    simp only [Memory.read, hik, if_false]
    exact ih hm.2 (by omega)

/-- A read gives back what was written. -/
theorem Memory.read_write_same {m : Memory} {lo hi : Nat} (k : Nat) (v : Byte)
    (hm : Memory.canonicalFrom lo hi m = true) : Memory.read (Memory.write m k v) k = v := by
  induction m generalizing lo with
  | nil => by_cases hv : v = Memory.unlisted <;> simp [Memory.write, Memory.read, hv]
  | cons e m ih =>
    obtain ⟨i, w⟩ := e
    simp only [Memory.canonicalFrom, Bool.and_eq_true, decide_eq_true_eq] at hm
    by_cases hlt : k < i
    · by_cases hv : v = Memory.unlisted
      · have hik : i ≠ k := by omega
        have := Memory.read_below (k := k) hm.2 (by omega)
        simp [Memory.write, Memory.read, hlt, hv, hik, this]
      · simp [Memory.write, Memory.read, hlt, hv]
    · by_cases heq : k = i
      · subst heq
        by_cases hv : v = Memory.unlisted
        · simp [Memory.write, hv, Memory.read_below hm.2 (Nat.lt_succ_self k)]
        · simp [Memory.write, Memory.read, hv]
      · have hik : i ≠ k := fun h => heq h.symm
        simp [Memory.write, Memory.read, hlt, heq, hik, ih hm.2]

/-- A write within the store keeps the canonical form, from any lower bound not above the index. -/
theorem Memory.canonicalFrom_write {m : Memory} {lo hi k : Nat} (v : Byte)
    (hm : Memory.canonicalFrom lo hi m = true) (hlo : lo ≤ k) (hk : k < hi) :
    Memory.canonicalFrom lo hi (Memory.write m k v) = true := by
  induction m generalizing lo with
  | nil => by_cases hv : v = Memory.unlisted <;> simp [Memory.write, Memory.canonicalFrom, hv, hlo, hk]
  | cons e m ih =>
    obtain ⟨i, w⟩ := e
    have hm' := hm
    simp only [Memory.canonicalFrom, Bool.and_eq_true, decide_eq_true_eq] at hm'
    obtain ⟨⟨⟨hli, hih⟩, hw⟩, hrest⟩ := hm'
    by_cases hlt : k < i
    · have hki : k + 1 ≤ i := hlt
      by_cases hv : v = Memory.unlisted
      · simpa [Memory.write, hlt, hv] using hm
      · simp [Memory.write, Memory.canonicalFrom, hlt, hv, hlo, hk, hki, hih, hw, hrest]
    · by_cases heq : k = i
      · subst heq
        by_cases hv : v = Memory.unlisted
        · have : Memory.canonicalFrom lo hi m = true := by
            cases m with
            | nil => rfl
            | cons e m =>
              obtain ⟨j, u⟩ := e
              simp only [Memory.canonicalFrom, Bool.and_eq_true, decide_eq_true_eq] at hrest ⊢
              exact ⟨⟨⟨by omega, hrest.1.1.2⟩, hrest.1.2⟩, hrest.2⟩
          simp [Memory.write, hv, this]
        · simp [Memory.write, Memory.canonicalFrom, hv, hlo, hk, hrest]
      · have := ih hrest (by omega)
        simp [Memory.write, Memory.canonicalFrom, hlt, heq, hli, hih, hw, this]

/-- A write within the store keeps `Memory.wf`. -/
theorem Memory.wf_write {m : Memory} {size k : Nat} (v : Byte) (hm : Memory.wf size m = true) (hk : k < size) :
    Memory.wf size (Memory.write m k v) = true :=
  Memory.canonicalFrom_write v hm (Nat.zero_le k) hk

/-- In a canonical store a read gives back what was written. -/
theorem Memory.wf_read_write {m : Memory} {size : Nat} (k : Nat) (v : Byte) (hm : Memory.wf size m = true) :
    Memory.read (Memory.write m k v) k = v :=
  Memory.read_write_same k v hm

end Sys2Proof
end

