-- ==== Sys2Proof/Laws/Mmu.lean ====
section
/-! SUPPORT. What the two operations of the MMU do (spec/20_memory): the address decode, what a read depends on, what a
write changes, and the canonical form it keeps. -/

namespace Sys2Proof.Machine

/-- The ranges of the decode table (R42). -/
theorem regionOf_spec (a : Word) :
    match regionOf a with
    | .overlaid => a.toNat ≤ 0x00FF
    | .romBank0 => 0x0100 ≤ a.toNat ∧ a.toNat ≤ 0x3FFF
    | .romWindow => 0x4000 ≤ a.toNat ∧ a.toNat ≤ 0x7FFF
    | .vram => 0x8000 ≤ a.toNat ∧ a.toNat ≤ 0x9FFF
    | .eram => 0xA000 ≤ a.toNat ∧ a.toNat ≤ 0xBFFF
    | .wram => 0xC000 ≤ a.toNat ∧ a.toNat ≤ 0xDFFF
    | .overlayDisable => a.toNat = 0xFF50
    | .hram => 0xFF80 ≤ a.toNat ∧ a.toNat ≤ 0xFFFE
    | .undecoded => 0xE000 ≤ a.toNat ∧ a.toNat ≤ 0xFF7F ∧ a.toNat ≠ 0xFF50 ∨ a.toNat = 0xFFFF := by
  have ha := a.isLt
  unfold regionOf
  split_ifs <;> simp only <;> omega

/-- A read depends on the stores, the overlay flag and the window's bank alone. -/
theorem memRead_congr {s t : State} (ho : t.overlayEnabled = s.overlayEnabled) (hr : t.rom = s.rom)
    (hb : t.boot = s.boot) (hv : t.vram = s.vram) (he : t.eram = s.eram) (hw : t.wram = s.wram) (hh : t.hram = s.hram)
    (hp : t.params = s.params) (a : Word) : memRead t a = memRead s a := by
  simp only [memRead, ho, hr, hb, hv, he, hw, hh, hp]

/-- Equal stores, overlay flag and parameters make the same memory. -/
theorem sameMemory_of_fields {s t : State} (ho : t.overlayEnabled = s.overlayEnabled) (hr : t.rom = s.rom)
    (hb : t.boot = s.boot) (hv : t.vram = s.vram) (he : t.eram = s.eram) (hw : t.wram = s.wram) (hh : t.hram = s.hram)
    (hp : t.params = s.params) : SameMemory s t :=
  ⟨memRead_congr ho hr hb hv he hw hh hp, ho, hr, hb, hv, he, hw, hh⟩

@[simp] theorem memRead_advancePc (s : State) (a : Word) : memRead s.advancePc a = memRead s a := rfl
@[simp] theorem memRead_decSp (s : State) (a : Word) : memRead s.decSp a = memRead s a := rfl
@[simp] theorem memRead_incSp (s : State) (a : Word) : memRead s.incSp a = memRead s a := rfl
@[simp] theorem memRead_addCycles (s : State) (n : Nat) (a : Word) : memRead (s.addCycles n) a = memRead s a := rfl
@[simp] theorem memRead_takeFault (s : State) (c : Cause) (a : Word) : memRead (takeFault c s) a = memRead s a := rfl
@[simp] theorem memRead_writeReg8 (s : State) (r : Reg8) (v : Byte) (a : Word) :
    memRead (s.writeReg8 r v) a = memRead s a := by cases r <;> rfl
@[simp] theorem memRead_writePair (s : State) (r : Pair) (v : Word) (a : Word) :
    memRead (s.writePair r v) a = memRead s a := by cases r <;> rfl
@[simp] theorem memRead_writeStackPair (s : State) (r : StackPair) (v : Word) (a : Word) :
    memRead (s.writeStackPair r v) a = memRead s a := by cases r <;> rfl
@[simp] theorem memRead_loadLowHalf (s : State) (r : Pair) (b : Byte) (a : Word) :
    memRead (s.loadLowHalf r b) a = memRead s a := by cases r <;> rfl

/-- A write changes RAM and the overlay flag alone: no register, no parameter, not ROM, not BOOT. -/
theorem memWrite_frame {s t : State} {a : Word} {v : Byte} (h : memWrite s a v = some t) :
    t = { s with vram := t.vram, eram := t.eram, wram := t.wram, hram := t.hram, overlayEnabled := t.overlayEnabled } := by
  unfold memWrite at h
  split at h <;> simp only [Option.some.injEq, reduceCtorEq] at h <;> subst h <;> rfl

/-- Where a write raises (R55). -/
theorem memWrite_none_iff (s : State) (a : Word) (v : Byte) : memWrite s a v = none ↔ regionOf a = .undecoded := by
  unfold memWrite
  split <;> simp_all

/-- Where a read raises (R54, R55). -/
theorem memRead_none_iff (s : State) (a : Word) :
    memRead s a = none ↔ regionOf a = .undecoded ∨ regionOf a = .overlayDisable := by
  unfold memRead
  split <;> simp_all

/-- The addresses a read of which raises, by number (60_exceptions R153). -/
theorem memRead_none_iff_undecoded (s : State) (a : Word) : memRead s a = none ↔ undecodedForRead a = true := by
  have sa := regionOf_spec a
  rw [memRead_none_iff]
  cases hra : regionOf a <;> rw [hra] at sa <;> simp [undecodedForRead] <;> omega

/-- The addresses a write of which raises, by number (60_exceptions R153). -/
theorem memWrite_none_iff_undecoded (s : State) (a : Word) (v : Byte) :
    memWrite s a v = none ↔ undecodedForWrite a = true := by
  have sa := regionOf_spec a
  rw [memWrite_none_iff]
  cases hra : regionOf a <;> rw [hra] at sa <;> simp [undecodedForWrite] <;> omega

/-- A write of any other address succeeds. -/
theorem memWrite_some_of_decoded (s : State) {a : Word} (v : Byte) (h : undecodedForWrite a = false) :
    ∃ t, memWrite s a v = some t := by
  cases hw : memWrite s a v with
  | some t => exact ⟨t, rfl⟩
  | none => rw [memWrite_none_iff_undecoded, h] at hw; cases hw

/-- The overlay flag after a write (R53). -/
theorem memWrite_overlay {s t : State} {a : Word} {v : Byte} (h : memWrite s a v = some t) :
    t.overlayEnabled = (s.overlayEnabled && decide (regionOf a ≠ .overlayDisable)) := by
  unfold memWrite at h
  split at h <;> simp only [Option.some.injEq, reduceCtorEq] at h <;> subst h <;> simp_all

/-- Two addresses of one region have equal indexes only if they are equal. -/
theorem word_eq_of_index {a b : Word} {base : Nat} (ha : base ≤ a.toNat) (hb : base ≤ b.toNat)
    (h : b.toNat - base = a.toNat - base) : b = a :=
  BitVec.eq_of_toNat_eq (by omega)

/-- A write leaves what every other address reads as, but for the overlaid addresses when it disables the overlay. -/
theorem memRead_memWrite_other {s t : State} {a b : Word} {v : Byte} (h : memWrite s a v = some t) (hb : b ≠ a)
    (ho : regionOf a ≠ .overlayDisable ∨ regionOf b ≠ .overlaid) : memRead t b = memRead s b := by
  have sa := regionOf_spec a
  have sb := regionOf_spec b
  have key : ∀ {base : Nat}, base ≤ a.toNat → base ≤ b.toNat → b.toNat - base ≠ a.toNat - base :=
    fun h1 h2 h3 => hb (word_eq_of_index h1 h2 h3)
  unfold memWrite at h
  cases hra : regionOf a <;> rw [hra] at h sa <;> simp only [Option.some.injEq, reduceCtorEq] at h <;> subst h <;>
    cases hrb : regionOf b <;> rw [hrb] at sb <;> simp only [memRead, hrb] <;> simp_all [Memory.read_write_other]

/-- A RAM address is in one of the four RAM rows (R50 to R52). -/
theorem isRam_iff (a : Word) : isRam a = true ↔
    regionOf a = .vram ∨ regionOf a = .eram ∨ regionOf a = .wram ∨ regionOf a = .hram := by
  have sa := regionOf_spec a
  cases hra : regionOf a <;> rw [hra] at sa <;> simp [isRam] <;> omega

/-- The canonical form of the stores, one by one. -/
theorem memoriesWf_iff (s : State) : s.memoriesWf = true ↔
    Memory.wf s.params.romLen s.rom = true ∧ Memory.wf 0x100 s.boot = true ∧ Memory.wf 0x2000 s.vram = true ∧
    Memory.wf 0x2000 s.eram = true ∧ Memory.wf 0x2000 s.wram = true ∧ Memory.wf 0x7F s.hram = true := by
  simp [State.memoriesWf, Images.wf, and_assoc]

/-- A RAM address reads as what was written to it (R50 to R52). -/
theorem memRead_memWrite_same {s t : State} {a : Word} {v : Byte} (hs : s.memoriesWf = true)
    (h : memWrite s a v = some t) (ha : isRam a = true) : memRead t a = some v := by
  obtain ⟨-, -, h1, h2, h3, h4⟩ := (memoriesWf_iff s).1 hs
  unfold memWrite at h
  rcases (isRam_iff a).1 ha with hr | hr | hr | hr <;> rw [hr] at h <;> simp only [Option.some.injEq] at h <;>
    subst h <;> simp only [memRead, hr] <;> rw [Memory.wf_read_write _ _ (by assumption)]

/-- A write keeps the canonical form of every store. -/
theorem memWrite_memoriesWf {s t : State} {a : Word} {v : Byte} (hs : s.memoriesWf = true)
    (h : memWrite s a v = some t) : t.memoriesWf = true := by
  have sa := regionOf_spec a
  rw [memoriesWf_iff] at hs ⊢
  obtain ⟨h0, hb, h1, h2, h3, h4⟩ := hs
  unfold memWrite at h
  cases hra : regionOf a <;> rw [hra] at h sa <;> simp only [Option.some.injEq, reduceCtorEq] at h <;> subst h <;>
    refine ⟨h0, hb, ?_, ?_, ?_, ?_⟩ <;> first | assumption | (apply Memory.wf_write <;> first | assumption | omega)

/-- A write outside RAM stores nothing (R49, R53). -/
theorem memWrite_notRam {s t : State} {a : Word} {v : Byte} (h : memWrite s a v = some t) (ha : isRam a = false) :
    t.vram = s.vram ∧ t.eram = s.eram ∧ t.wram = s.wram ∧ t.hram = s.hram := by
  have hn : ¬ isRam a = true := by simp [ha]
  rw [isRam_iff] at hn
  unfold memWrite at h
  split at h <;> simp only [Option.some.injEq, reduceCtorEq] at h <;> subst h <;> simp_all

/-- The row of 0xFF50 (R53). -/
theorem regionOf_overlayDisable_iff (a : Word) : regionOf a = .overlayDisable ↔ a = 0xFF50 := by
  have sa := regionOf_spec a
  constructor
  · intro h
    rw [h] at sa
    exact BitVec.eq_of_toNat_eq sa
  · rintro rfl
    rfl

/-- Everything a write does, as one statement. -/
theorem memWrite_storedAt {s t : State} {a : Word} {v : Byte} (hs : s.memoriesWf = true)
    (h : memWrite s a v = some t) : StoredAt s t a v where
  rom := by rw [memWrite_frame h]
  boot := by rw [memWrite_frame h]
  overlay := by rw [memWrite_overlay h]; simp [regionOf_overlayDisable_iff]
  stored := memRead_memWrite_same hs h
  notStored := memWrite_notRam h
  elsewhere := fun ha b hb =>
    memRead_memWrite_other h hb (.inl fun hr => ha ((regionOf_overlayDisable_iff a).1 hr))
  outsideOverlay := fun b hb hn => memRead_memWrite_other h hb (.inr fun hr => by
    have := regionOf_spec b
    rw [hr] at this
    omega)

/-- What a store did is not undone by what changes no memory afterwards. -/
theorem StoredAt.then_sameMemory {s t u : State} {a : Word} {v : Byte} (h : StoredAt s t a v) (hm : SameMemory t u) :
    StoredAt s u a v where
  rom := hm.rom.trans h.rom
  boot := hm.boot.trans h.boot
  overlay := hm.overlay.trans h.overlay
  stored := fun x => (hm.reads a).trans (h.stored x)
  notStored := fun x => by rw [hm.vram, hm.eram, hm.wram, hm.hram]; exact h.notStored x
  elsewhere := fun x b y => (hm.reads b).trans (h.elsewhere x b y)
  outsideOverlay := fun b x y => (hm.reads b).trans (h.outsideOverlay b x y)

/-- A store counts from the state before what changed no memory. -/
theorem StoredAt.after_sameMemory {s t u : State} {a : Word} {v : Byte} (hm : SameMemory s t) (h : StoredAt t u a v) :
    StoredAt s u a v where
  rom := h.rom.trans hm.rom
  boot := h.boot.trans hm.boot
  overlay := h.overlay.trans (by rw [hm.overlay])
  stored := fun x => h.stored x
  notStored := fun x => by rw [← hm.vram, ← hm.eram, ← hm.wram, ← hm.hram]; exact h.notStored x
  elsewhere := fun x b y => (h.elsewhere x b y).trans (hm.reads b)
  outsideOverlay := fun b x y => (h.outsideOverlay b x y).trans (hm.reads b)

/-- A write to ROM leaves the address itself reading as before (R49). -/
theorem memRead_memWrite_notRam {s t : State} {a : Word} {v : Byte} (h : memWrite s a v = some t) (hr : isRam a = false)
    (hn : a ≠ 0xFF50) : memRead t a = memRead s a := by
  obtain ⟨h1, h2, h3, h4⟩ := memWrite_notRam h hr
  have hf := memWrite_frame h
  refine memRead_congr ?_ (by rw [hf]) (by rw [hf]) h1 h2 h3 h4 (by rw [hf]) a
  have hr : regionOf a ≠ .overlayDisable := fun x => hn ((regionOf_overlayDisable_iff a).1 x)
  rw [memWrite_overlay h, decide_eq_true hr, Bool.and_true]

/-- A read of any other address succeeds. -/
theorem memRead_some_of_decoded (s : State) {a : Word} (h : undecodedForRead a = false) : ∃ v, memRead s a = some v := by
  cases hw : memRead s a with
  | some v => exact ⟨v, rfl⟩
  | none => rw [memRead_none_iff_undecoded, h] at hw; cases hw

end Sys2Proof.Machine
end

