-- ==== Sys2Proof/Laws/Exec.lean ====
section
/-! SUPPORT. Every arm of `exec` by its family, and what can be said of an outcome from the operations it is built of. -/

namespace Sys2Proof.Machine

/-- The family of each form. -/
def runForm : Form → State → Out
  | .nop => nop
  | .stop => stop
  | .ldRegReg dst src => ldRegReg dst src
  | .ldRegAtHL dst => ldRegAtHL dst
  | .ldAtHLReg r => ldAtHLReg r
  | .ldRegImm dst v => ldRegImm dst v
  | .ldAtHLImm v => ldAtHLImm v
  | .ldAtHLIncA => ldAtHLIncA
  | .ldAtHLDecA => ldAtHLDecA
  | .ldAAtHLInc => ldAAtHLInc
  | .ldAAtHLDec => ldAAtHLDec
  | .ldPairImm dst v => ldPairImm dst v
  | .push r => push r
  | .pop dst => pop dst
  | .incReg r => incReg r
  | .decReg r => decReg r
  | .incPair r => incPair r
  | .decPair r => decPair r
  | .undecoded op => illegalOpcode op

/-- Each arm of `exec` is its family's meaning at its own operands. -/
theorem exec_eq_runForm (i : Instr) (s : State) : exec i s = runForm i.form s := by
  cases i <;> rfl

/-- Every next state of an outcome has `P`. -/
def Sat (P : State → Prop) (o : Out) : Prop := ∀ t, o = .next t → P t

@[simp] theorem sat_returnCost {P : State → Prop} {n : Nat} {s : State} :
    Sat P (returnCost n s) ↔ P (s.addCycles n) := by
  simp [Sat, returnCost]

@[simp] theorem sat_raise {P : State → Prop} {c : Cause} {s : State} : Sat P (raise c s) ↔ P (takeFault c s) := by
  simp [Sat, raise]

/-- `withRead` either goes on with the byte read or raises. -/
theorem sat_withRead {P : State → Prop} {s : State} {a : Word} {k : Byte → Out} :
    Sat P (withRead s a k) ↔
      (∀ v, memRead s a = some v → Sat P (k v)) ∧
      (memRead s a = none → P (takeFault (.undecodedAddress a .read) s)) := by
  unfold withRead
  split <;> simp_all

/-- `withWrite` either goes on in the state after the write or raises. -/
theorem sat_withWrite {P : State → Prop} {s : State} {a : Word} {v : Byte} {k : State → Out} :
    Sat P (withWrite s a v k) ↔
      (∀ t, memWrite s a v = some t → Sat P (k t)) ∧
      (memWrite s a v = none → P (takeFault (.undecodedAddress a .write) s)) := by
  unfold withWrite
  split <;> simp_all

theorem withRead_some {s : State} {a : Word} {v : Byte} {k : Byte → Out} (h : memRead s a = some v) :
    withRead s a k = k v := by simp [withRead, h]

theorem withRead_none {s : State} {a : Word} {k : Byte → Out} (h : memRead s a = none) :
    withRead s a k = raise (.undecodedAddress a .read) s := by simp [withRead, h]

theorem withWrite_some {s t : State} {a : Word} {v : Byte} {k : State → Out} (h : memWrite s a v = some t) :
    withWrite s a v k = k t := by simp [withWrite, h]

theorem withWrite_none {s : State} {a : Word} {v : Byte} {k : State → Out} (h : memWrite s a v = none) :
    withWrite s a v k = raise (.undecodedAddress a .write) s := by simp [withWrite, h]

/-- An outcome is a next state. -/
def Answers (o : Out) : Prop := ∃ t, o = .next t

@[simp] theorem answers_returnCost {n : Nat} {s : State} : Answers (returnCost n s) := ⟨_, rfl⟩

@[simp] theorem answers_raise {c : Cause} {s : State} : Answers (raise c s) := ⟨_, rfl⟩

theorem answers_withRead {s : State} {a : Word} {k : Byte → Out} (h : ∀ v, Answers (k v)) :
    Answers (withRead s a k) := by
  unfold withRead
  split
  · exact h _
  · exact answers_raise

theorem answers_withWrite {s : State} {a : Word} {v : Byte} {k : State → Out} (h : ∀ t, Answers (k t)) :
    Answers (withWrite s a v k) := by
  unfold withWrite
  split
  · exact h _
  · exact answers_raise

/-- Every instruction answers a next state, on every state. -/
theorem exec_answers (i : Instr) (s : State) : Answers (exec i s) := by
  rw [exec_eq_runForm]
  cases i.form <;>
    first
      | exact answers_returnCost
      | exact answers_raise
      | exact answers_withRead fun _ => answers_returnCost
      | exact answers_withWrite fun _ => answers_returnCost
      | exact answers_withRead fun _ => answers_withRead fun _ => answers_returnCost
      | exact answers_withWrite fun _ => answers_withWrite fun _ => answers_returnCost

end Sys2Proof.Machine
end

