-- ==== Sys2Proof/Laws/Step.lean ====
section
/-! SUPPORT. The fetch and the Step (spec/40_step_dispatch): what a fetch comes to, and a Step by its fetch. -/

namespace Sys2Proof.Machine

/-- A Step of an enabled state, by its fetch. -/
theorem step_enabled {s : State} (h : s.enabled) : step s = match fetchInstr s with
    | .handler i t => exec i t
    | .raised t => .next t := by
  obtain ⟨hr, hh⟩ := h
  rewrite [step, hr, hh]
  rfl

/-- A Step that answers a next state was enabled. -/
theorem enabled_of_step {s t : State} (h : step s = .next t) : s.enabled := by
  unfold step at h
  split at h
  · cases h
  · cases h
  · next hr hh => exact ⟨hr, hh⟩

/-- The bytes of an entry's instruction, from its first byte and its immediates. -/
theorem encode_of_entry_op {op : Byte} {i : Instr} (h : opcodeEntry op = some (.op i)) : encode i = [op] := by
  have h1 := opcode_of_opcodeEntry op
  have h2 := immediateBytes_op op
  simp only [h, Option.map_some, Entry.instr0, Option.some.injEq, decide_eq_true_eq] at h1 h2
  simp [encode, h1, h2]

theorem encode_of_entry_d8 {op : Byte} {dst : ImmDst} (h : opcodeEntry op = some (.opD8 dst)) (d8 : Byte) :
    encode (instrD8 dst d8) = [op, d8] := by
  have h1 := opcode_of_opcodeEntry op
  simp only [h, Option.map_some, Entry.instr0, Option.some.injEq] at h1
  rw [encode, opcode_instrD8, h1, immediateBytes_instrD8]

theorem encode_of_entry_d16 {op : Byte} {dst : Pair} (h : opcodeEntry op = some (.opD16 dst)) (hi lo : Byte) :
    encode (instrD16 dst (joinBytes hi lo)) = [op, lo, hi] := by
  have h1 := opcode_of_opcodeEntry op
  simp only [h, Option.map_some, Entry.instr0, Option.some.injEq] at h1
  rw [encode, opcode_instrD16, h1, immediateBytes_instrD16]
  simp

/-- Everything a fetch can come to: a handler, for the instruction whose bytes stand at `pc`, entered after the opcode byte;
or a fault at the address of the first byte that does not decode, with what came before it done (60_exceptions R156). -/
theorem fetchInstr_cases (s : State) :
    (∃ i, fetchInstr s = .handler i s.advancePc ∧ readBytes s s.pc i.length = some (encode i)) ∨
    (memRead s s.pc = none ∧ fetchInstr s = .raised (takeFault (.undecodedAddress s.pc .read) s)) ∨
    (∃ op e, memRead s s.pc = some op ∧ opcodeEntry op = some e ∧ e.immediates ≠ 0 ∧ memRead s (s.pc + 1) = none ∧
      fetchInstr s = .raised (takeFault (.undecodedAddress (s.pc + 1) .read) s.advancePc)) ∨
    (∃ op dst lo, memRead s s.pc = some op ∧ opcodeEntry op = some (.opD16 dst) ∧ memRead s (s.pc + 1) = some lo ∧
      memRead s (s.pc + 1 + 1) = none ∧ fetchInstr s = .raised
        (takeFault (.undecodedAddress (s.pc + 1 + 1) .read) (s.advancePc.loadLowHalf dst lo))) := by
  cases hop : memRead s s.pc with
  | none => exact .inr (.inl ⟨rfl, by simp [fetchInstr, hop]⟩)
  | some op =>
    obtain ⟨e, he⟩ := Option.isSome_iff_exists.1 (opcodeEntry_total op)
    cases e with
    | op i =>
      refine .inl ⟨i, by simp [fetchInstr, hop, he], ?_⟩
      simp [Instr.length, encode_of_entry_op he, readBytes, hop]
    | opD8 dst =>
      cases hd : memRead s (s.pc + 1) with
      | none =>
        exact .inr (.inr (.inl ⟨op, _, rfl, he, by simp [Entry.immediates], rfl, by
          simp only [fetchInstr, hop, he, fetchD8, State.advancePc_pc, memRead_advancePc, hd]⟩))
      | some d8 =>
        refine .inl ⟨instrD8 dst d8, by
          simp only [fetchInstr, hop, he, fetchD8, State.advancePc_pc, memRead_advancePc, hd], ?_⟩
        simp only [Instr.length, encode_of_entry_d8 he, readBytes, List.length_cons, List.length_nil, hop, hd]
    | opD16 dst =>
      cases hl : memRead s (s.pc + 1) with
      | none =>
        exact .inr (.inr (.inl ⟨op, _, rfl, he, by simp [Entry.immediates], rfl, by
          simp only [fetchInstr, hop, he, fetchD16, State.advancePc_pc, memRead_advancePc, hl]⟩))
      | some lo =>
        cases hh : memRead s (s.pc + 1 + 1) with
        | none =>
          exact .inr (.inr (.inr ⟨op, dst, lo, rfl, he, rfl, rfl, by
            simp only [fetchInstr, hop, he, fetchD16, State.advancePc_pc, State.loadLowHalf_pc, memRead_advancePc, memRead_loadLowHalf, hl, hh]⟩))
        | some hi =>
          refine .inl ⟨instrD16 dst (joinBytes hi lo), by
            simp only [fetchInstr, hop, he, fetchD16, State.advancePc_pc, State.loadLowHalf_pc, memRead_advancePc, memRead_loadLowHalf, hl, hh], ?_⟩
          simp only [Instr.length, encode_of_entry_d16 he, readBytes, List.length_cons, List.length_nil, hop, hl, hh]

/-- Everything a Step that answers a next state can be: the meaning of the instruction at `pc`, or a fault of its opcode
fetch, of its first immediate or of its second. -/
theorem step_cases {s t : State} (h : step s = .next t) :
    (∃ i, readBytes s s.pc i.length = some (encode i) ∧ exec i s.advancePc = .next t) ∨
    (memRead s s.pc = none ∧ t = takeFault (.undecodedAddress s.pc .read) s) ∨
    (∃ op e, memRead s s.pc = some op ∧ opcodeEntry op = some e ∧ e.immediates ≠ 0 ∧ memRead s (s.pc + 1) = none ∧
      t = takeFault (.undecodedAddress (s.pc + 1) .read) s.advancePc) ∨
    (∃ op dst lo, memRead s s.pc = some op ∧ opcodeEntry op = some (.opD16 dst) ∧ memRead s (s.pc + 1) = some lo ∧
      memRead s (s.pc + 1 + 1) = none ∧
      t = takeFault (.undecodedAddress (s.pc + 1 + 1) .read) (s.advancePc.loadLowHalf dst lo)) := by
  rw [step_enabled (enabled_of_step h)] at h
  rcases fetchInstr_cases s with ⟨i, hf, hb⟩ | ⟨hm, hf⟩ | ⟨op, e, ho, he, hi, hm, hf⟩ | ⟨op, dst, lo, ho, he, hl, hm, hf⟩ <;>
    rw [hf] at h <;> simp only [Host.Outcome.next.injEq] at h
  · exact .inl ⟨i, hb, h⟩
  · exact .inr (.inl ⟨hm, h.symm⟩)
  · exact .inr (.inr (.inl ⟨op, e, ho, he, hi, hm, h.symm⟩))
  · exact .inr (.inr (.inr ⟨op, dst, lo, ho, he, hl, hm, h.symm⟩))

/-- Every instruction answers a next state, so an enabled Step does. -/
theorem step_answers {s : State} (h : s.enabled) : ∃ t, step s = .next t := by
  rw [step_enabled h]
  rcases fetchInstr_cases s with ⟨i, hf, -⟩ | ⟨-, hf⟩ | ⟨op, e, -, -, -, -, hf⟩ | ⟨op, dst, lo, -, -, -, -, hf⟩ <;>
    rw [hf]
  · exact exec_answers i _
  all_goals exact ⟨_, rfl⟩

/-- What every instruction and every fetch fault keeps, a Step keeps. -/
theorem step_induct {P : State → Prop} {s t : State} (h : step s = .next t)
    (hexec : ∀ i, Sat P (exec i s.advancePc))
    (hfault : ∀ c, P (takeFault c s) ∧ P (takeFault c s.advancePc) ∧
      ∀ dst lo, P (takeFault c (s.advancePc.loadLowHalf dst lo))) : P t := by
  rcases step_cases h with ⟨i, -, he⟩ | ⟨-, rfl⟩ | ⟨_, _, -, -, -, -, rfl⟩ | ⟨_, dst, lo, -, -, -, -, rfl⟩
  · exact hexec i t he
  · exact (hfault _).1
  · exact (hfault _).2.1
  · exact (hfault _).2.2 dst lo

/-- What every Step keeps, a run keeps. -/
theorem run_induct {P : State → Prop} (hstep : ∀ s t, P s → step s = .next t → P t) (k : Nat) {s t : State}
    (hs : P s) (h : runSteps k s = .next t) : P t := by
  induction k generalizing s with
  | zero => cases h; exact hs
  | succ k ih =>
    rw [runSteps] at h
    split at h
    · next u hu => exact ih (hstep s u hs hu) h
    · cases h
    · cases h

end Sys2Proof.Machine
end

