-- ==== Sys2Proof/Laws/Kept.lean ====
section
/-! SUPPORT. A property that the named operations keep is kept by every instruction and every Step. -/

namespace Sys2Proof.Machine

/-- A property of states that every operation a handler or a fetch is built of keeps. -/
structure Kept (P : State → Prop) : Prop where
  writeReg8 : ∀ s r v, P s → P (s.writeReg8 r v)
  writePair : ∀ s r v, P s → P (s.writePair r v)
  writeStackPair : ∀ s r v, P s → P (s.writeStackPair r v)
  resetFlags : ∀ s fs, P s → P (s.resetFlags fs)
  advancePc : ∀ s, P s → P s.advancePc
  decSp : ∀ s, P s → P s.decSp
  incSp : ∀ s, P s → P s.incSp
  addCycles : ∀ s n, P s → P (s.addCycles n)
  takeFault : ∀ s c, P s → P (takeFault c s)
  memWrite : ∀ s a v t, P s → memWrite s a v = some t → P t

/-- What every operation keeps, every instruction keeps. -/
theorem Kept.exec {P : State → Prop} (K : Kept P) (i : Instr) (s : State) (h : P s) : Sat P (exec i s) := by
  rw [exec_eq_runForm]
  have R : ∀ {s a k}, P s → (∀ v, Sat P (k v)) → Sat P (withRead s a k) := fun hs hk =>
    sat_withRead.2 ⟨fun v _ => hk v, fun _ => K.takeFault _ _ hs⟩
  have W : ∀ {s a v k}, P s → (∀ t, P t → Sat P (k t)) → Sat P (withWrite s a v k) := fun hs hk =>
    sat_withWrite.2 ⟨fun t ht => hk t (K.memWrite _ _ _ _ hs ht), fun _ => K.takeFault _ _ hs⟩
  have C : ∀ {s n}, P s → Sat P (returnCost n s) := fun hs => sat_returnCost.2 (K.addCycles _ _ hs)
  have F : ∀ {s c}, P s → Sat P (raise c s) := fun hs => sat_raise.2 (K.takeFault _ _ hs)
  cases i.form with
  | nop => exact C h
  | stop => exact F h
  | undecoded => exact F h
  | ldRegReg => exact C (K.writeReg8 _ _ _ h)
  | ldRegAtHL => exact R h fun v => C (K.writeReg8 _ _ _ h)
  | ldAtHLReg => exact W h fun t ht => C ht
  | ldRegImm => exact C (K.writeReg8 _ _ _ (K.advancePc _ h))
  | ldAtHLImm => exact W (K.advancePc _ h) fun t ht => C ht
  | ldAtHLIncA => exact W h fun t ht => C (K.writePair _ _ _ ht)
  | ldAtHLDecA => exact W h fun t ht => C (K.writePair _ _ _ ht)
  | ldAAtHLInc => exact R h fun v => C (K.writePair _ _ _ (K.writeReg8 _ _ _ h))
  | ldAAtHLDec => exact R h fun v => C (K.writePair _ _ _ (K.writeReg8 _ _ _ h))
  | ldPairImm => exact C (K.writePair _ _ _ (K.advancePc _ (K.writePair _ _ _ (K.advancePc _ h))))
  | push => exact W (K.decSp _ h) fun t ht => W (K.decSp _ ht) fun t ht => C ht
  | pop => exact R h fun v => R (K.incSp _ h) fun w => C (K.writeStackPair _ _ _ (K.incSp _ (K.incSp _ h)))
  | incReg => exact C (K.resetFlags _ _ (K.writeReg8 _ _ _ h))
  | decReg => exact C (K.resetFlags _ _ (K.writeReg8 _ _ _ h))
  | incPair => exact C (K.writePair _ _ _ h)
  | decPair => exact C (K.writePair _ _ _ h)

/-- What every operation keeps, every Step keeps. -/
theorem Kept.step {P : State → Prop} (K : Kept P) {s t : State} (h : P s) (hs : step s = .next t) : P t := by
  refine step_induct hs (fun i => K.exec i _ (K.advancePc _ h)) fun c =>
    ⟨K.takeFault _ _ h, K.takeFault _ _ (K.advancePc _ h),
      fun dst lo => K.takeFault _ _ (K.writePair _ _ _ (K.advancePc _ (K.advancePc _ h)))⟩

end Sys2Proof.Machine
end

