-- ==== Sys2Proof/Laws/PerInstr.lean ====
section
/-! SUPPORT. The family `Encoding` of statements about each instruction: decoding its encoding gives it back, with whatever
bytes follow left over (spec/30_encoding R72 to R78). -/

namespace Sys2Proof.Laws

/-- What is said of each instruction. -/
def Encoding.Statement (i : Instr) : Prop := ∀ rest : List Byte, decode (encode i ++ rest) = .instr i rest

theorem Encoding.nop : Encoding.Statement .nop := decode_op (op := 0x00) rfl
theorem Encoding.ldBC_d16 (d16 : Word) : Encoding.Statement (.ldBC_d16 d16) := decode_d16 (op := 0x01) rfl d16
theorem Encoding.undecoded02 : Encoding.Statement .undecoded02 := decode_op (op := 0x02) rfl
theorem Encoding.incBC : Encoding.Statement .incBC := decode_op (op := 0x03) rfl
theorem Encoding.incB : Encoding.Statement .incB := decode_op (op := 0x04) rfl
theorem Encoding.decB : Encoding.Statement .decB := decode_op (op := 0x05) rfl
theorem Encoding.ldB_d8 (d8 : Byte) : Encoding.Statement (.ldB_d8 d8) := decode_d8 (op := 0x06) rfl d8
theorem Encoding.undecoded07 : Encoding.Statement .undecoded07 := decode_op (op := 0x07) rfl
theorem Encoding.undecoded08 : Encoding.Statement .undecoded08 := decode_op (op := 0x08) rfl
theorem Encoding.undecoded09 : Encoding.Statement .undecoded09 := decode_op (op := 0x09) rfl
theorem Encoding.undecoded0A : Encoding.Statement .undecoded0A := decode_op (op := 0x0A) rfl
theorem Encoding.decBC : Encoding.Statement .decBC := decode_op (op := 0x0B) rfl
theorem Encoding.incC : Encoding.Statement .incC := decode_op (op := 0x0C) rfl
theorem Encoding.decC : Encoding.Statement .decC := decode_op (op := 0x0D) rfl
theorem Encoding.ldC_d8 (d8 : Byte) : Encoding.Statement (.ldC_d8 d8) := decode_d8 (op := 0x0E) rfl d8
theorem Encoding.undecoded0F : Encoding.Statement .undecoded0F := decode_op (op := 0x0F) rfl
theorem Encoding.stop : Encoding.Statement .stop := decode_op (op := 0x10) rfl
theorem Encoding.ldDE_d16 (d16 : Word) : Encoding.Statement (.ldDE_d16 d16) := decode_d16 (op := 0x11) rfl d16
theorem Encoding.undecoded12 : Encoding.Statement .undecoded12 := decode_op (op := 0x12) rfl
theorem Encoding.incDE : Encoding.Statement .incDE := decode_op (op := 0x13) rfl
theorem Encoding.incD : Encoding.Statement .incD := decode_op (op := 0x14) rfl
theorem Encoding.decD : Encoding.Statement .decD := decode_op (op := 0x15) rfl
theorem Encoding.ldD_d8 (d8 : Byte) : Encoding.Statement (.ldD_d8 d8) := decode_d8 (op := 0x16) rfl d8
theorem Encoding.undecoded17 : Encoding.Statement .undecoded17 := decode_op (op := 0x17) rfl
theorem Encoding.undecoded18 : Encoding.Statement .undecoded18 := decode_op (op := 0x18) rfl
theorem Encoding.undecoded19 : Encoding.Statement .undecoded19 := decode_op (op := 0x19) rfl
theorem Encoding.undecoded1A : Encoding.Statement .undecoded1A := decode_op (op := 0x1A) rfl
theorem Encoding.decDE : Encoding.Statement .decDE := decode_op (op := 0x1B) rfl
theorem Encoding.incE : Encoding.Statement .incE := decode_op (op := 0x1C) rfl
theorem Encoding.decE : Encoding.Statement .decE := decode_op (op := 0x1D) rfl
theorem Encoding.ldE_d8 (d8 : Byte) : Encoding.Statement (.ldE_d8 d8) := decode_d8 (op := 0x1E) rfl d8
theorem Encoding.undecoded1F : Encoding.Statement .undecoded1F := decode_op (op := 0x1F) rfl
theorem Encoding.undecoded20 : Encoding.Statement .undecoded20 := decode_op (op := 0x20) rfl
theorem Encoding.ldHL_d16 (d16 : Word) : Encoding.Statement (.ldHL_d16 d16) := decode_d16 (op := 0x21) rfl d16
theorem Encoding.ldAtHLInc_A : Encoding.Statement .ldAtHLInc_A := decode_op (op := 0x22) rfl
theorem Encoding.incHL : Encoding.Statement .incHL := decode_op (op := 0x23) rfl
theorem Encoding.incH : Encoding.Statement .incH := decode_op (op := 0x24) rfl
theorem Encoding.decH : Encoding.Statement .decH := decode_op (op := 0x25) rfl
theorem Encoding.ldH_d8 (d8 : Byte) : Encoding.Statement (.ldH_d8 d8) := decode_d8 (op := 0x26) rfl d8
theorem Encoding.undecoded27 : Encoding.Statement .undecoded27 := decode_op (op := 0x27) rfl
theorem Encoding.undecoded28 : Encoding.Statement .undecoded28 := decode_op (op := 0x28) rfl
theorem Encoding.undecoded29 : Encoding.Statement .undecoded29 := decode_op (op := 0x29) rfl
theorem Encoding.ldA_atHLInc : Encoding.Statement .ldA_atHLInc := decode_op (op := 0x2A) rfl
theorem Encoding.decHL : Encoding.Statement .decHL := decode_op (op := 0x2B) rfl
theorem Encoding.incL : Encoding.Statement .incL := decode_op (op := 0x2C) rfl
theorem Encoding.decL : Encoding.Statement .decL := decode_op (op := 0x2D) rfl
theorem Encoding.ldL_d8 (d8 : Byte) : Encoding.Statement (.ldL_d8 d8) := decode_d8 (op := 0x2E) rfl d8
theorem Encoding.undecoded2F : Encoding.Statement .undecoded2F := decode_op (op := 0x2F) rfl
theorem Encoding.undecoded30 : Encoding.Statement .undecoded30 := decode_op (op := 0x30) rfl
theorem Encoding.ldSP_d16 (d16 : Word) : Encoding.Statement (.ldSP_d16 d16) := decode_d16 (op := 0x31) rfl d16
theorem Encoding.ldAtHLDec_A : Encoding.Statement .ldAtHLDec_A := decode_op (op := 0x32) rfl
theorem Encoding.incSP : Encoding.Statement .incSP := decode_op (op := 0x33) rfl
theorem Encoding.undecoded34 : Encoding.Statement .undecoded34 := decode_op (op := 0x34) rfl
theorem Encoding.undecoded35 : Encoding.Statement .undecoded35 := decode_op (op := 0x35) rfl
theorem Encoding.ldAtHL_d8 (d8 : Byte) : Encoding.Statement (.ldAtHL_d8 d8) := decode_d8 (op := 0x36) rfl d8
theorem Encoding.undecoded37 : Encoding.Statement .undecoded37 := decode_op (op := 0x37) rfl
theorem Encoding.undecoded38 : Encoding.Statement .undecoded38 := decode_op (op := 0x38) rfl
theorem Encoding.undecoded39 : Encoding.Statement .undecoded39 := decode_op (op := 0x39) rfl
theorem Encoding.ldA_atHLDec : Encoding.Statement .ldA_atHLDec := decode_op (op := 0x3A) rfl
theorem Encoding.decSP : Encoding.Statement .decSP := decode_op (op := 0x3B) rfl
theorem Encoding.incA : Encoding.Statement .incA := decode_op (op := 0x3C) rfl
theorem Encoding.decA : Encoding.Statement .decA := decode_op (op := 0x3D) rfl
theorem Encoding.ldA_d8 (d8 : Byte) : Encoding.Statement (.ldA_d8 d8) := decode_d8 (op := 0x3E) rfl d8
theorem Encoding.undecoded3F : Encoding.Statement .undecoded3F := decode_op (op := 0x3F) rfl
theorem Encoding.ldB_B : Encoding.Statement .ldB_B := decode_op (op := 0x40) rfl
theorem Encoding.ldB_C : Encoding.Statement .ldB_C := decode_op (op := 0x41) rfl
theorem Encoding.ldB_D : Encoding.Statement .ldB_D := decode_op (op := 0x42) rfl
theorem Encoding.ldB_E : Encoding.Statement .ldB_E := decode_op (op := 0x43) rfl
theorem Encoding.ldB_H : Encoding.Statement .ldB_H := decode_op (op := 0x44) rfl
theorem Encoding.ldB_L : Encoding.Statement .ldB_L := decode_op (op := 0x45) rfl
theorem Encoding.ldB_atHL : Encoding.Statement .ldB_atHL := decode_op (op := 0x46) rfl
theorem Encoding.ldB_A : Encoding.Statement .ldB_A := decode_op (op := 0x47) rfl
theorem Encoding.ldC_B : Encoding.Statement .ldC_B := decode_op (op := 0x48) rfl
theorem Encoding.ldC_C : Encoding.Statement .ldC_C := decode_op (op := 0x49) rfl
theorem Encoding.ldC_D : Encoding.Statement .ldC_D := decode_op (op := 0x4A) rfl
theorem Encoding.ldC_E : Encoding.Statement .ldC_E := decode_op (op := 0x4B) rfl
theorem Encoding.ldC_H : Encoding.Statement .ldC_H := decode_op (op := 0x4C) rfl
theorem Encoding.ldC_L : Encoding.Statement .ldC_L := decode_op (op := 0x4D) rfl
theorem Encoding.ldC_atHL : Encoding.Statement .ldC_atHL := decode_op (op := 0x4E) rfl
theorem Encoding.ldC_A : Encoding.Statement .ldC_A := decode_op (op := 0x4F) rfl
theorem Encoding.ldD_B : Encoding.Statement .ldD_B := decode_op (op := 0x50) rfl
theorem Encoding.ldD_C : Encoding.Statement .ldD_C := decode_op (op := 0x51) rfl
theorem Encoding.ldD_D : Encoding.Statement .ldD_D := decode_op (op := 0x52) rfl
theorem Encoding.ldD_E : Encoding.Statement .ldD_E := decode_op (op := 0x53) rfl
theorem Encoding.ldD_H : Encoding.Statement .ldD_H := decode_op (op := 0x54) rfl
theorem Encoding.ldD_L : Encoding.Statement .ldD_L := decode_op (op := 0x55) rfl
theorem Encoding.ldD_atHL : Encoding.Statement .ldD_atHL := decode_op (op := 0x56) rfl
theorem Encoding.ldD_A : Encoding.Statement .ldD_A := decode_op (op := 0x57) rfl
theorem Encoding.ldE_B : Encoding.Statement .ldE_B := decode_op (op := 0x58) rfl
theorem Encoding.ldE_C : Encoding.Statement .ldE_C := decode_op (op := 0x59) rfl
theorem Encoding.ldE_D : Encoding.Statement .ldE_D := decode_op (op := 0x5A) rfl
theorem Encoding.ldE_E : Encoding.Statement .ldE_E := decode_op (op := 0x5B) rfl
theorem Encoding.ldE_H : Encoding.Statement .ldE_H := decode_op (op := 0x5C) rfl
theorem Encoding.ldE_L : Encoding.Statement .ldE_L := decode_op (op := 0x5D) rfl
theorem Encoding.ldE_atHL : Encoding.Statement .ldE_atHL := decode_op (op := 0x5E) rfl
theorem Encoding.ldE_A : Encoding.Statement .ldE_A := decode_op (op := 0x5F) rfl
theorem Encoding.ldH_B : Encoding.Statement .ldH_B := decode_op (op := 0x60) rfl
theorem Encoding.ldH_C : Encoding.Statement .ldH_C := decode_op (op := 0x61) rfl
theorem Encoding.ldH_D : Encoding.Statement .ldH_D := decode_op (op := 0x62) rfl
theorem Encoding.ldH_E : Encoding.Statement .ldH_E := decode_op (op := 0x63) rfl
theorem Encoding.ldH_H : Encoding.Statement .ldH_H := decode_op (op := 0x64) rfl
theorem Encoding.ldH_L : Encoding.Statement .ldH_L := decode_op (op := 0x65) rfl
theorem Encoding.ldH_atHL : Encoding.Statement .ldH_atHL := decode_op (op := 0x66) rfl
theorem Encoding.ldH_A : Encoding.Statement .ldH_A := decode_op (op := 0x67) rfl
theorem Encoding.ldL_B : Encoding.Statement .ldL_B := decode_op (op := 0x68) rfl
theorem Encoding.ldL_C : Encoding.Statement .ldL_C := decode_op (op := 0x69) rfl
theorem Encoding.ldL_D : Encoding.Statement .ldL_D := decode_op (op := 0x6A) rfl
theorem Encoding.ldL_E : Encoding.Statement .ldL_E := decode_op (op := 0x6B) rfl
theorem Encoding.ldL_H : Encoding.Statement .ldL_H := decode_op (op := 0x6C) rfl
theorem Encoding.ldL_L : Encoding.Statement .ldL_L := decode_op (op := 0x6D) rfl
theorem Encoding.ldL_atHL : Encoding.Statement .ldL_atHL := decode_op (op := 0x6E) rfl
theorem Encoding.ldL_A : Encoding.Statement .ldL_A := decode_op (op := 0x6F) rfl
theorem Encoding.ldAtHL_B : Encoding.Statement .ldAtHL_B := decode_op (op := 0x70) rfl
theorem Encoding.ldAtHL_C : Encoding.Statement .ldAtHL_C := decode_op (op := 0x71) rfl
theorem Encoding.ldAtHL_D : Encoding.Statement .ldAtHL_D := decode_op (op := 0x72) rfl
theorem Encoding.ldAtHL_E : Encoding.Statement .ldAtHL_E := decode_op (op := 0x73) rfl
theorem Encoding.ldAtHL_H : Encoding.Statement .ldAtHL_H := decode_op (op := 0x74) rfl
theorem Encoding.ldAtHL_L : Encoding.Statement .ldAtHL_L := decode_op (op := 0x75) rfl
theorem Encoding.undecoded76 : Encoding.Statement .undecoded76 := decode_op (op := 0x76) rfl
theorem Encoding.ldAtHL_A : Encoding.Statement .ldAtHL_A := decode_op (op := 0x77) rfl
theorem Encoding.ldA_B : Encoding.Statement .ldA_B := decode_op (op := 0x78) rfl
theorem Encoding.ldA_C : Encoding.Statement .ldA_C := decode_op (op := 0x79) rfl
theorem Encoding.ldA_D : Encoding.Statement .ldA_D := decode_op (op := 0x7A) rfl
theorem Encoding.ldA_E : Encoding.Statement .ldA_E := decode_op (op := 0x7B) rfl
theorem Encoding.ldA_H : Encoding.Statement .ldA_H := decode_op (op := 0x7C) rfl
theorem Encoding.ldA_L : Encoding.Statement .ldA_L := decode_op (op := 0x7D) rfl
theorem Encoding.ldA_atHL : Encoding.Statement .ldA_atHL := decode_op (op := 0x7E) rfl
theorem Encoding.ldA_A : Encoding.Statement .ldA_A := decode_op (op := 0x7F) rfl
theorem Encoding.undecoded80 : Encoding.Statement .undecoded80 := decode_op (op := 0x80) rfl
theorem Encoding.undecoded81 : Encoding.Statement .undecoded81 := decode_op (op := 0x81) rfl
theorem Encoding.undecoded82 : Encoding.Statement .undecoded82 := decode_op (op := 0x82) rfl
theorem Encoding.undecoded83 : Encoding.Statement .undecoded83 := decode_op (op := 0x83) rfl
theorem Encoding.undecoded84 : Encoding.Statement .undecoded84 := decode_op (op := 0x84) rfl
theorem Encoding.undecoded85 : Encoding.Statement .undecoded85 := decode_op (op := 0x85) rfl
theorem Encoding.undecoded86 : Encoding.Statement .undecoded86 := decode_op (op := 0x86) rfl
theorem Encoding.undecoded87 : Encoding.Statement .undecoded87 := decode_op (op := 0x87) rfl
theorem Encoding.undecoded88 : Encoding.Statement .undecoded88 := decode_op (op := 0x88) rfl
theorem Encoding.undecoded89 : Encoding.Statement .undecoded89 := decode_op (op := 0x89) rfl
theorem Encoding.undecoded8A : Encoding.Statement .undecoded8A := decode_op (op := 0x8A) rfl
theorem Encoding.undecoded8B : Encoding.Statement .undecoded8B := decode_op (op := 0x8B) rfl
theorem Encoding.undecoded8C : Encoding.Statement .undecoded8C := decode_op (op := 0x8C) rfl
theorem Encoding.undecoded8D : Encoding.Statement .undecoded8D := decode_op (op := 0x8D) rfl
theorem Encoding.undecoded8E : Encoding.Statement .undecoded8E := decode_op (op := 0x8E) rfl
theorem Encoding.undecoded8F : Encoding.Statement .undecoded8F := decode_op (op := 0x8F) rfl
theorem Encoding.undecoded90 : Encoding.Statement .undecoded90 := decode_op (op := 0x90) rfl
theorem Encoding.undecoded91 : Encoding.Statement .undecoded91 := decode_op (op := 0x91) rfl
theorem Encoding.undecoded92 : Encoding.Statement .undecoded92 := decode_op (op := 0x92) rfl
theorem Encoding.undecoded93 : Encoding.Statement .undecoded93 := decode_op (op := 0x93) rfl
theorem Encoding.undecoded94 : Encoding.Statement .undecoded94 := decode_op (op := 0x94) rfl
theorem Encoding.undecoded95 : Encoding.Statement .undecoded95 := decode_op (op := 0x95) rfl
theorem Encoding.undecoded96 : Encoding.Statement .undecoded96 := decode_op (op := 0x96) rfl
theorem Encoding.undecoded97 : Encoding.Statement .undecoded97 := decode_op (op := 0x97) rfl
theorem Encoding.undecoded98 : Encoding.Statement .undecoded98 := decode_op (op := 0x98) rfl
theorem Encoding.undecoded99 : Encoding.Statement .undecoded99 := decode_op (op := 0x99) rfl
theorem Encoding.undecoded9A : Encoding.Statement .undecoded9A := decode_op (op := 0x9A) rfl
theorem Encoding.undecoded9B : Encoding.Statement .undecoded9B := decode_op (op := 0x9B) rfl
theorem Encoding.undecoded9C : Encoding.Statement .undecoded9C := decode_op (op := 0x9C) rfl
theorem Encoding.undecoded9D : Encoding.Statement .undecoded9D := decode_op (op := 0x9D) rfl
theorem Encoding.undecoded9E : Encoding.Statement .undecoded9E := decode_op (op := 0x9E) rfl
theorem Encoding.undecoded9F : Encoding.Statement .undecoded9F := decode_op (op := 0x9F) rfl
theorem Encoding.undecodedA0 : Encoding.Statement .undecodedA0 := decode_op (op := 0xA0) rfl
theorem Encoding.undecodedA1 : Encoding.Statement .undecodedA1 := decode_op (op := 0xA1) rfl
theorem Encoding.undecodedA2 : Encoding.Statement .undecodedA2 := decode_op (op := 0xA2) rfl
theorem Encoding.undecodedA3 : Encoding.Statement .undecodedA3 := decode_op (op := 0xA3) rfl
theorem Encoding.undecodedA4 : Encoding.Statement .undecodedA4 := decode_op (op := 0xA4) rfl
theorem Encoding.undecodedA5 : Encoding.Statement .undecodedA5 := decode_op (op := 0xA5) rfl
theorem Encoding.undecodedA6 : Encoding.Statement .undecodedA6 := decode_op (op := 0xA6) rfl
theorem Encoding.undecodedA7 : Encoding.Statement .undecodedA7 := decode_op (op := 0xA7) rfl
theorem Encoding.undecodedA8 : Encoding.Statement .undecodedA8 := decode_op (op := 0xA8) rfl
theorem Encoding.undecodedA9 : Encoding.Statement .undecodedA9 := decode_op (op := 0xA9) rfl
theorem Encoding.undecodedAA : Encoding.Statement .undecodedAA := decode_op (op := 0xAA) rfl
theorem Encoding.undecodedAB : Encoding.Statement .undecodedAB := decode_op (op := 0xAB) rfl
theorem Encoding.undecodedAC : Encoding.Statement .undecodedAC := decode_op (op := 0xAC) rfl
theorem Encoding.undecodedAD : Encoding.Statement .undecodedAD := decode_op (op := 0xAD) rfl
theorem Encoding.undecodedAE : Encoding.Statement .undecodedAE := decode_op (op := 0xAE) rfl
theorem Encoding.undecodedAF : Encoding.Statement .undecodedAF := decode_op (op := 0xAF) rfl
theorem Encoding.undecodedB0 : Encoding.Statement .undecodedB0 := decode_op (op := 0xB0) rfl
theorem Encoding.undecodedB1 : Encoding.Statement .undecodedB1 := decode_op (op := 0xB1) rfl
theorem Encoding.undecodedB2 : Encoding.Statement .undecodedB2 := decode_op (op := 0xB2) rfl
theorem Encoding.undecodedB3 : Encoding.Statement .undecodedB3 := decode_op (op := 0xB3) rfl
theorem Encoding.undecodedB4 : Encoding.Statement .undecodedB4 := decode_op (op := 0xB4) rfl
theorem Encoding.undecodedB5 : Encoding.Statement .undecodedB5 := decode_op (op := 0xB5) rfl
theorem Encoding.undecodedB6 : Encoding.Statement .undecodedB6 := decode_op (op := 0xB6) rfl
theorem Encoding.undecodedB7 : Encoding.Statement .undecodedB7 := decode_op (op := 0xB7) rfl
theorem Encoding.undecodedB8 : Encoding.Statement .undecodedB8 := decode_op (op := 0xB8) rfl
theorem Encoding.undecodedB9 : Encoding.Statement .undecodedB9 := decode_op (op := 0xB9) rfl
theorem Encoding.undecodedBA : Encoding.Statement .undecodedBA := decode_op (op := 0xBA) rfl
theorem Encoding.undecodedBB : Encoding.Statement .undecodedBB := decode_op (op := 0xBB) rfl
theorem Encoding.undecodedBC : Encoding.Statement .undecodedBC := decode_op (op := 0xBC) rfl
theorem Encoding.undecodedBD : Encoding.Statement .undecodedBD := decode_op (op := 0xBD) rfl
theorem Encoding.undecodedBE : Encoding.Statement .undecodedBE := decode_op (op := 0xBE) rfl
theorem Encoding.undecodedBF : Encoding.Statement .undecodedBF := decode_op (op := 0xBF) rfl
theorem Encoding.undecodedC0 : Encoding.Statement .undecodedC0 := decode_op (op := 0xC0) rfl
theorem Encoding.popBC : Encoding.Statement .popBC := decode_op (op := 0xC1) rfl
theorem Encoding.undecodedC2 : Encoding.Statement .undecodedC2 := decode_op (op := 0xC2) rfl
theorem Encoding.undecodedC3 : Encoding.Statement .undecodedC3 := decode_op (op := 0xC3) rfl
theorem Encoding.undecodedC4 : Encoding.Statement .undecodedC4 := decode_op (op := 0xC4) rfl
theorem Encoding.pushBC : Encoding.Statement .pushBC := decode_op (op := 0xC5) rfl
theorem Encoding.undecodedC6 : Encoding.Statement .undecodedC6 := decode_op (op := 0xC6) rfl
theorem Encoding.undecodedC7 : Encoding.Statement .undecodedC7 := decode_op (op := 0xC7) rfl
theorem Encoding.undecodedC8 : Encoding.Statement .undecodedC8 := decode_op (op := 0xC8) rfl
theorem Encoding.undecodedC9 : Encoding.Statement .undecodedC9 := decode_op (op := 0xC9) rfl
theorem Encoding.undecodedCA : Encoding.Statement .undecodedCA := decode_op (op := 0xCA) rfl
theorem Encoding.undecodedCB : Encoding.Statement .undecodedCB := decode_op (op := 0xCB) rfl
theorem Encoding.undecodedCC : Encoding.Statement .undecodedCC := decode_op (op := 0xCC) rfl
theorem Encoding.undecodedCD : Encoding.Statement .undecodedCD := decode_op (op := 0xCD) rfl
theorem Encoding.undecodedCE : Encoding.Statement .undecodedCE := decode_op (op := 0xCE) rfl
theorem Encoding.undecodedCF : Encoding.Statement .undecodedCF := decode_op (op := 0xCF) rfl
theorem Encoding.undecodedD0 : Encoding.Statement .undecodedD0 := decode_op (op := 0xD0) rfl
theorem Encoding.popDE : Encoding.Statement .popDE := decode_op (op := 0xD1) rfl
theorem Encoding.undecodedD2 : Encoding.Statement .undecodedD2 := decode_op (op := 0xD2) rfl
theorem Encoding.undecodedD3 : Encoding.Statement .undecodedD3 := decode_op (op := 0xD3) rfl
theorem Encoding.undecodedD4 : Encoding.Statement .undecodedD4 := decode_op (op := 0xD4) rfl
theorem Encoding.pushDE : Encoding.Statement .pushDE := decode_op (op := 0xD5) rfl
theorem Encoding.undecodedD6 : Encoding.Statement .undecodedD6 := decode_op (op := 0xD6) rfl
theorem Encoding.undecodedD7 : Encoding.Statement .undecodedD7 := decode_op (op := 0xD7) rfl
theorem Encoding.undecodedD8 : Encoding.Statement .undecodedD8 := decode_op (op := 0xD8) rfl
theorem Encoding.undecodedD9 : Encoding.Statement .undecodedD9 := decode_op (op := 0xD9) rfl
theorem Encoding.undecodedDA : Encoding.Statement .undecodedDA := decode_op (op := 0xDA) rfl
theorem Encoding.undecodedDB : Encoding.Statement .undecodedDB := decode_op (op := 0xDB) rfl
theorem Encoding.undecodedDC : Encoding.Statement .undecodedDC := decode_op (op := 0xDC) rfl
theorem Encoding.undecodedDD : Encoding.Statement .undecodedDD := decode_op (op := 0xDD) rfl
theorem Encoding.undecodedDE : Encoding.Statement .undecodedDE := decode_op (op := 0xDE) rfl
theorem Encoding.undecodedDF : Encoding.Statement .undecodedDF := decode_op (op := 0xDF) rfl
theorem Encoding.undecodedE0 : Encoding.Statement .undecodedE0 := decode_op (op := 0xE0) rfl
theorem Encoding.popHL : Encoding.Statement .popHL := decode_op (op := 0xE1) rfl
theorem Encoding.undecodedE2 : Encoding.Statement .undecodedE2 := decode_op (op := 0xE2) rfl
theorem Encoding.undecodedE3 : Encoding.Statement .undecodedE3 := decode_op (op := 0xE3) rfl
theorem Encoding.undecodedE4 : Encoding.Statement .undecodedE4 := decode_op (op := 0xE4) rfl
theorem Encoding.pushHL : Encoding.Statement .pushHL := decode_op (op := 0xE5) rfl
theorem Encoding.undecodedE6 : Encoding.Statement .undecodedE6 := decode_op (op := 0xE6) rfl
theorem Encoding.undecodedE7 : Encoding.Statement .undecodedE7 := decode_op (op := 0xE7) rfl
theorem Encoding.undecodedE8 : Encoding.Statement .undecodedE8 := decode_op (op := 0xE8) rfl
theorem Encoding.undecodedE9 : Encoding.Statement .undecodedE9 := decode_op (op := 0xE9) rfl
theorem Encoding.undecodedEA : Encoding.Statement .undecodedEA := decode_op (op := 0xEA) rfl
theorem Encoding.undecodedEB : Encoding.Statement .undecodedEB := decode_op (op := 0xEB) rfl
theorem Encoding.undecodedEC : Encoding.Statement .undecodedEC := decode_op (op := 0xEC) rfl
theorem Encoding.undecodedED : Encoding.Statement .undecodedED := decode_op (op := 0xED) rfl
theorem Encoding.undecodedEE : Encoding.Statement .undecodedEE := decode_op (op := 0xEE) rfl
theorem Encoding.undecodedEF : Encoding.Statement .undecodedEF := decode_op (op := 0xEF) rfl
theorem Encoding.undecodedF0 : Encoding.Statement .undecodedF0 := decode_op (op := 0xF0) rfl
theorem Encoding.popAF : Encoding.Statement .popAF := decode_op (op := 0xF1) rfl
theorem Encoding.undecodedF2 : Encoding.Statement .undecodedF2 := decode_op (op := 0xF2) rfl
theorem Encoding.undecodedF3 : Encoding.Statement .undecodedF3 := decode_op (op := 0xF3) rfl
theorem Encoding.undecodedF4 : Encoding.Statement .undecodedF4 := decode_op (op := 0xF4) rfl
theorem Encoding.pushAF : Encoding.Statement .pushAF := decode_op (op := 0xF5) rfl
theorem Encoding.undecodedF6 : Encoding.Statement .undecodedF6 := decode_op (op := 0xF6) rfl
theorem Encoding.undecodedF7 : Encoding.Statement .undecodedF7 := decode_op (op := 0xF7) rfl
theorem Encoding.undecodedF8 : Encoding.Statement .undecodedF8 := decode_op (op := 0xF8) rfl
theorem Encoding.undecodedF9 : Encoding.Statement .undecodedF9 := decode_op (op := 0xF9) rfl
theorem Encoding.undecodedFA : Encoding.Statement .undecodedFA := decode_op (op := 0xFA) rfl
theorem Encoding.undecodedFB : Encoding.Statement .undecodedFB := decode_op (op := 0xFB) rfl
theorem Encoding.undecodedFC : Encoding.Statement .undecodedFC := decode_op (op := 0xFC) rfl
theorem Encoding.undecodedFD : Encoding.Statement .undecodedFD := decode_op (op := 0xFD) rfl
theorem Encoding.undecodedFE : Encoding.Statement .undecodedFE := decode_op (op := 0xFE) rfl
theorem Encoding.undecodedFF : Encoding.Statement .undecodedFF := decode_op (op := 0xFF) rfl

end Sys2Proof.Laws
end

