-- ==== Sys2Proof/Laws/Place.lean ====
section
/-! SUPPORT. Placing bytes where they are fetched from (`placeByte`, `readyToFetch` of Machine/Fetch.lean; log 19): what is
read after, what is kept. -/

namespace Sys2Proof.Machine

/-- The constraints on the window (spec/20_memory R48, 00_scope R6). -/
theorem windowBank_of_wf {s : State} (h : s.params.wf = true) : s.params.windowBank = 0 ∧ 0x4000 ≤ s.params.romLen := by
  simp only [Params.wf, Bool.and_eq_true, decide_eq_true_eq] at h
  omega

/-- An address that decodes reads as the byte placed there. -/
theorem memRead_placeByte_same {s : State} (hi : s.Inv) {a : Word} (v : Byte) (h : undecodedForRead a = false) :
    memRead (placeByte s a v) a = some v := by
  have hn : memRead s a ≠ none := fun hh => by rw [memRead_none_iff_undecoded, h] at hh; cases hh
  rw [Ne, memRead_none_iff] at hn
  obtain ⟨h0, hb, h1, h2, h3, h4⟩ := (memoriesWf_iff s).1 hi.memories
  cases hr : regionOf a <;> simp only [hr] at hn <;> simp only [placeByte, hr] <;> (try split) <;>
    simp only [memRead, hr] <;>
    simp_all [Memory.wf_read_write _ _ h0, Memory.wf_read_write _ _ hb, Memory.wf_read_write _ _ h1,
      Memory.wf_read_write _ _ h2, Memory.wf_read_write _ _ h3, Memory.wf_read_write _ _ h4]

/-- The invariant asks only for the memories, F and the parameters. -/
theorem inv_of_memoriesWf {s t : State} (hi : s.Inv) (ha : t.af = s.af) (hp : t.params = s.params)
    (h : t.memoriesWf = true) : t.Inv :=
  ⟨h, by have := hi.flagNibble; unfold State.readF at *; rw [ha]; exact this, by rw [hp]; exact hi.params⟩

/-- Placing a byte keeps the invariant. -/
theorem placeByte_inv {s : State} (hi : s.Inv) (a : Word) (v : Byte) : (placeByte s a v).Inv := by
  obtain ⟨h0, hb, h1, h2, h3, h4⟩ := (memoriesWf_iff s).1 hi.memories
  obtain ⟨hw0, hw1⟩ := windowBank_of_wf hi.params
  have sa := regionOf_spec a
  have key : ∀ {t : State}, t.af = s.af → t.params = s.params →
      Memory.wf t.params.romLen t.rom = true ∧ Memory.wf 0x100 t.boot = true ∧ Memory.wf 0x2000 t.vram = true ∧
      Memory.wf 0x2000 t.eram = true ∧ Memory.wf 0x2000 t.wram = true ∧ Memory.wf 0x7F t.hram = true → t.Inv :=
    fun ha hp hm => inv_of_memoriesWf hi ha hp ((memoriesWf_iff _).2 hm)
  unfold placeByte
  cases hr : regionOf a <;> rw [hr] at sa <;> simp only at sa ⊢
  · split
    · exact key rfl rfl ⟨h0, Memory.wf_write v hb (by omega), h1, h2, h3, h4⟩
    · exact key rfl rfl ⟨Memory.wf_write v h0 (show a.toNat < s.params.romLen by omega), hb, h1, h2, h3, h4⟩
  · exact key rfl rfl ⟨Memory.wf_write v h0 (show a.toNat < s.params.romLen by omega), hb, h1, h2, h3, h4⟩
  · have hx : s.params.windowBank * 0x4000 + (a.toNat - 0x4000) < s.params.romLen := by rw [hw0]; omega
    exact key rfl rfl ⟨Memory.wf_write v h0 hx, hb, h1, h2, h3, h4⟩
  · exact key rfl rfl ⟨h0, hb, Memory.wf_write v h1 (by omega), h2, h3, h4⟩
  · exact key rfl rfl ⟨h0, hb, h1, Memory.wf_write v h2 (by omega), h3, h4⟩
  · exact key rfl rfl ⟨h0, hb, h1, h2, Memory.wf_write v h3 (by omega), h4⟩
  · exact hi
  · exact key rfl rfl ⟨h0, hb, h1, h2, h3, Memory.wf_write v h4 (by omega)⟩
  · exact hi

/-- Which byte of ROM an address shows, if it shows one. -/
def romIndex (s : State) (a : Word) : Option Nat :=
  match regionOf a with
  | .overlaid => if s.overlayEnabled then none else some a.toNat
  | .romBank0 => some a.toNat
  | .romWindow => some (windowIndex s.params a)
  | .vram | .eram | .wram | .hram | .overlayDisable | .undecoded => none

/-- Placing a byte changes no other address, but for one that shows the same byte of ROM. -/
theorem memRead_placeByte_other {s : State} (a b : Word) (v : Byte) (h : b ≠ a)
    (hm : ∀ n, romIndex s a = some n → romIndex s b ≠ some n) : memRead (placeByte s a v) b = memRead s b := by
  have sa := regionOf_spec a
  have sb := regionOf_spec b
  have key : ∀ {base : Nat}, base ≤ a.toNat → base ≤ b.toNat → b.toNat - base ≠ a.toNat - base :=
    fun h1 h2 h3 => h (word_eq_of_index h1 h2 h3)
  have k0 : b.toNat ≠ a.toNat := fun h1 => h (BitVec.eq_of_toNat_eq h1)
  unfold placeByte
  unfold romIndex at hm
  cases hra : regionOf a <;> rw [hra] at sa <;> simp only [hra] at hm sa ⊢ <;>
    cases hrb : regionOf b <;> rw [hrb] at sb <;> simp only [hrb] at hm sb <;> (try split) <;>
    simp only [memRead, hrb] <;>
    first
      | rfl
      | rw [Memory.read_write_other _ _ (key (by omega) (by omega))]
      | simp_all [Memory.read_write_other]

/-- Placing a byte changes no pointer, status or parameter. -/
theorem placeByte_fields (s : State) (a : Word) (v : Byte) :
    (placeByte s a v).pc = s.pc ∧ (placeByte s a v).status = s.status ∧ (placeByte s a v).halted = s.halted ∧
    (placeByte s a v).params = s.params ∧ (placeByte s a v).overlayEnabled = s.overlayEnabled := by
  unfold placeByte
  split <;> (try split) <;> exact ⟨rfl, rfl, rfl, rfl, rfl⟩

/-- ROM bank 0 is shown at its own addresses and, 0x4000 higher, in the window (R46 to R48). -/
theorem romIndex_cases {s : State} (hw : s.params.windowBank = 0) {x : Word} {n : Nat} (h : romIndex s x = some n) :
    (n = x.toNat ∧ x.toNat < 0x4000) ∨ (n = x.toNat - 0x4000 ∧ 0x4000 ≤ x.toNat) := by
  have sx := regionOf_spec x
  have hwin : windowIndex s.params x = x.toNat - 0x4000 := by
    unfold windowIndex; rw [hw, Nat.zero_mul, Nat.zero_add]
  unfold romIndex at h
  cases hr : regionOf x <;> rw [hr] at sx h <;> simp only at sx h
  · split at h
    · cases h
    · left; have h' := Option.some.inj h; omega
  · left; have h' := Option.some.inj h; omega
  · right; have h' := Option.some.inj h; omega
  all_goals cases h

/-- Placing a byte one or two addresses further on changes nothing here. -/
theorem memRead_placeByte_before {s : State} (hi : s.Inv) {a b : Word} {k : Nat} (hk : 0 < k) (hk' : k < 3)
    (hb : b.toNat = a.toNat + k) (v : Byte) : memRead (placeByte s b v) a = memRead s a := by
  have hw := (windowBank_of_wf hi.params).1
  refine memRead_placeByte_other b a v (fun h => by rw [h] at hb; omega) fun n h h' => ?_
  rcases romIndex_cases hw h with h1 | h1 <;> rcases romIndex_cases hw h' with h2 | h2 <;> omega

/-- Where three bytes can be read, their addresses decode. -/
theorem decoded_of_readBytes3 {s : State} {a : Word} (h : ∃ l, readBytes s a 3 = some l) :
    undecodedForRead a = false ∧ undecodedForRead (a + 1) = false ∧ undecodedForRead (a + 1 + 1) = false := by
  obtain ⟨l, h⟩ := h
  have k : ∀ a, memRead s a ≠ none → undecodedForRead a = false := by
    intro a h; rw [Ne, memRead_none_iff_undecoded] at h; simpa using h
  simp only [readBytes] at h
  refine ⟨k _ fun e => ?_, k _ fun e => ?_, k _ fun e => ?_⟩ <;>
    cases h0 : memRead s a <;> cases h1 : memRead s (a + 1) <;> simp only [h0, h1, e] at h <;>
    (try cases h0.symm.trans e) <;> (try cases h1.symm.trans e) <;> cases h

/-- The highest address does not decode for a read, so the next one is one higher. -/
theorem toNat_add_one_of_decoded {a : Word} (h : undecodedForRead a = false) : (a + 1).toNat = a.toNat + 1 := by
  have := a.isLt
  simp only [undecodedForRead, Bool.or_eq_false_iff, decide_eq_false_iff_not] at h
  rw [BitVec.toNat_add]
  show (_ + 1) % 65536 = _
  omega

/-- A state made ready to fetch keeps the invariant, is enabled, and has three readable bytes at `pc`. -/
theorem readyToFetch_spec {s : State} (hi : s.Inv) : (readyToFetch s).Inv ∧ (readyToFetch s).enabled ∧
    ∃ l, readBytes (readyToFetch s) (readyToFetch s).pc 3 = some l := by
  unfold readyToFetch
  simp only
  split
  · next l h => exact ⟨⟨hi.memories, hi.flagNibble, hi.params⟩, ⟨rfl, rfl⟩, l, h⟩
  · exact ⟨⟨hi.memories, hi.flagNibble, hi.params⟩, ⟨rfl, rfl⟩, _, rfl⟩

end Sys2Proof.Machine
end

