-- ==== Sys2Proof/Tests/Slice0.lean ====
section
/-! SUPPORT. The model's own tests: the checks refuse ill-formed terms, every opcode byte of spec/30_encoding R78 decodes to its
instruction, the spec's vectors (95_test_vectors S1 to S7, V1 to V12), and a witness for the hypotheses of each obligation.
Every expected value is the spec's. -/

namespace Sys2Proof.Tests

open Sys2Proof Sys2Proof.Machine

/- One theorem at a time: the checks in parallel would need more stacks than memory holds. -/
set_option Elab.async false

/-! ### Well-formedness refuses -/

theorem test_wf_form_of_a_decoded_opcode : Form.wf (.undecoded 0x00) = false := by decide
theorem test_wf_form_of_stop : Form.wf (.undecoded 0x10) = false := by decide
theorem test_wf_form_of_an_undecoded_opcode : Form.wf (.undecoded 0x76) = true := by decide
theorem test_wf_params : defaultParams.wf = true := by decide
theorem test_wf_params_boot_entry : ({ defaultParams with resetPc := 0x0000 } : Params).wf = true := by decide
theorem test_wf_params_short_rom : ({ defaultParams with romLen := 0x3FFF } : Params).wf = false := by decide
theorem test_wf_params_window_bank : ({ defaultParams with windowBank := 1 } : Params).wf = false := by decide
theorem test_wf_params_reset_pc : ({ defaultParams with resetPc := 0x0150 } : Params).wf = false := by decide
theorem test_wf_params_push_cost : ({ defaultParams with cycPush := 0 } : Params).wf = false := by decide
theorem test_wf_params_pop_cost : ({ defaultParams with cycPop := 0 } : Params).wf = false := by decide
theorem test_wf_images : emptyImages.wf defaultParams = true := by decide
theorem test_wf_rom_too_long : ({ emptyImages with rom := [(0x4000, 0x01)] } : Images).wf defaultParams = false := by decide
theorem test_wf_boot_too_long : ({ emptyImages with boot := [(0x100, 0x01)] } : Images).wf defaultParams = false := by decide
theorem test_wf_vram_not_rising : ({ emptyImages with vram := [(5, 0x01), (5, 0x02)] } : Images).wf defaultParams = false := by
  decide
theorem test_wf_eram_falling : ({ emptyImages with eram := [(6, 0x01), (5, 0x02)] } : Images).wf defaultParams = false := by
  decide
theorem test_wf_wram_lists_an_unlisted_value : ({ emptyImages with wram := [(0, 0x00)] } : Images).wf defaultParams = false := by
  decide
theorem test_wf_hram_too_long : ({ emptyImages with hram := [(0x7F, 0x01)] } : Images).wf defaultParams = false := by decide
theorem test_construct_checked_refuses_a_short_rom :
    State.constructChecked { defaultParams with romLen := 0x3FFF } emptyImages = none := by decide

/-! ### Every opcode byte decodes to its instruction

Row by row of R78, the bytes as opcode_table.json writes them; an 8-bit immediate is 0x9A, a 16-bit one 0x1234, low byte
first. -/

/-- Each list of bytes decodes to the instruction beside it, and is what the encoder writes. -/
def decodesTo (rows : List (List Byte × Instr)) : Bool :=
  rows.all fun r => decide (decode r.1 = .instr r.2 []) && decide (encode r.2 = r.1)

theorem test_decode_row_0x : decodesTo [
    ([0x00], .nop), ([0x01, 0x34, 0x12], .ldBC_d16 0x1234), ([0x02], .undecoded02), ([0x03], .incBC),
    ([0x04], .incB), ([0x05], .decB), ([0x06, 0x9A], .ldB_d8 0x9A), ([0x07], .undecoded07),
    ([0x08], .undecoded08), ([0x09], .undecoded09), ([0x0A], .undecoded0A), ([0x0B], .decBC),
    ([0x0C], .incC), ([0x0D], .decC), ([0x0E, 0x9A], .ldC_d8 0x9A), ([0x0F], .undecoded0F)] = true := by decide +kernel

theorem test_decode_row_1x : decodesTo [
    ([0x10], .stop), ([0x11, 0x34, 0x12], .ldDE_d16 0x1234), ([0x12], .undecoded12), ([0x13], .incDE),
    ([0x14], .incD), ([0x15], .decD), ([0x16, 0x9A], .ldD_d8 0x9A), ([0x17], .undecoded17),
    ([0x18], .undecoded18), ([0x19], .undecoded19), ([0x1A], .undecoded1A), ([0x1B], .decDE),
    ([0x1C], .incE), ([0x1D], .decE), ([0x1E, 0x9A], .ldE_d8 0x9A), ([0x1F], .undecoded1F)] = true := by decide +kernel

theorem test_decode_row_2x : decodesTo [
    ([0x20], .undecoded20), ([0x21, 0x34, 0x12], .ldHL_d16 0x1234), ([0x22], .ldAtHLInc_A), ([0x23], .incHL),
    ([0x24], .incH), ([0x25], .decH), ([0x26, 0x9A], .ldH_d8 0x9A), ([0x27], .undecoded27),
    ([0x28], .undecoded28), ([0x29], .undecoded29), ([0x2A], .ldA_atHLInc), ([0x2B], .decHL),
    ([0x2C], .incL), ([0x2D], .decL), ([0x2E, 0x9A], .ldL_d8 0x9A), ([0x2F], .undecoded2F)] = true := by decide +kernel

theorem test_decode_row_3x : decodesTo [
    ([0x30], .undecoded30), ([0x31, 0x34, 0x12], .ldSP_d16 0x1234), ([0x32], .ldAtHLDec_A), ([0x33], .incSP),
    ([0x34], .undecoded34), ([0x35], .undecoded35), ([0x36, 0x9A], .ldAtHL_d8 0x9A), ([0x37], .undecoded37),
    ([0x38], .undecoded38), ([0x39], .undecoded39), ([0x3A], .ldA_atHLDec), ([0x3B], .decSP),
    ([0x3C], .incA), ([0x3D], .decA), ([0x3E, 0x9A], .ldA_d8 0x9A), ([0x3F], .undecoded3F)] = true := by decide +kernel

theorem test_decode_row_4x : decodesTo [
    ([0x40], .ldB_B), ([0x41], .ldB_C), ([0x42], .ldB_D), ([0x43], .ldB_E),
    ([0x44], .ldB_H), ([0x45], .ldB_L), ([0x46], .ldB_atHL), ([0x47], .ldB_A),
    ([0x48], .ldC_B), ([0x49], .ldC_C), ([0x4A], .ldC_D), ([0x4B], .ldC_E),
    ([0x4C], .ldC_H), ([0x4D], .ldC_L), ([0x4E], .ldC_atHL), ([0x4F], .ldC_A)] = true := by decide +kernel

theorem test_decode_row_5x : decodesTo [
    ([0x50], .ldD_B), ([0x51], .ldD_C), ([0x52], .ldD_D), ([0x53], .ldD_E),
    ([0x54], .ldD_H), ([0x55], .ldD_L), ([0x56], .ldD_atHL), ([0x57], .ldD_A),
    ([0x58], .ldE_B), ([0x59], .ldE_C), ([0x5A], .ldE_D), ([0x5B], .ldE_E),
    ([0x5C], .ldE_H), ([0x5D], .ldE_L), ([0x5E], .ldE_atHL), ([0x5F], .ldE_A)] = true := by decide +kernel

theorem test_decode_row_6x : decodesTo [
    ([0x60], .ldH_B), ([0x61], .ldH_C), ([0x62], .ldH_D), ([0x63], .ldH_E),
    ([0x64], .ldH_H), ([0x65], .ldH_L), ([0x66], .ldH_atHL), ([0x67], .ldH_A),
    ([0x68], .ldL_B), ([0x69], .ldL_C), ([0x6A], .ldL_D), ([0x6B], .ldL_E),
    ([0x6C], .ldL_H), ([0x6D], .ldL_L), ([0x6E], .ldL_atHL), ([0x6F], .ldL_A)] = true := by decide +kernel

theorem test_decode_row_7x : decodesTo [
    ([0x70], .ldAtHL_B), ([0x71], .ldAtHL_C), ([0x72], .ldAtHL_D), ([0x73], .ldAtHL_E),
    ([0x74], .ldAtHL_H), ([0x75], .ldAtHL_L), ([0x76], .undecoded76), ([0x77], .ldAtHL_A),
    ([0x78], .ldA_B), ([0x79], .ldA_C), ([0x7A], .ldA_D), ([0x7B], .ldA_E),
    ([0x7C], .ldA_H), ([0x7D], .ldA_L), ([0x7E], .ldA_atHL), ([0x7F], .ldA_A)] = true := by decide +kernel

theorem test_decode_row_8x : decodesTo [
    ([0x80], .undecoded80), ([0x81], .undecoded81), ([0x82], .undecoded82), ([0x83], .undecoded83),
    ([0x84], .undecoded84), ([0x85], .undecoded85), ([0x86], .undecoded86), ([0x87], .undecoded87),
    ([0x88], .undecoded88), ([0x89], .undecoded89), ([0x8A], .undecoded8A), ([0x8B], .undecoded8B),
    ([0x8C], .undecoded8C), ([0x8D], .undecoded8D), ([0x8E], .undecoded8E), ([0x8F], .undecoded8F)] = true := by decide +kernel

theorem test_decode_row_9x : decodesTo [
    ([0x90], .undecoded90), ([0x91], .undecoded91), ([0x92], .undecoded92), ([0x93], .undecoded93),
    ([0x94], .undecoded94), ([0x95], .undecoded95), ([0x96], .undecoded96), ([0x97], .undecoded97),
    ([0x98], .undecoded98), ([0x99], .undecoded99), ([0x9A], .undecoded9A), ([0x9B], .undecoded9B),
    ([0x9C], .undecoded9C), ([0x9D], .undecoded9D), ([0x9E], .undecoded9E), ([0x9F], .undecoded9F)] = true := by decide +kernel

theorem test_decode_row_Ax : decodesTo [
    ([0xA0], .undecodedA0), ([0xA1], .undecodedA1), ([0xA2], .undecodedA2), ([0xA3], .undecodedA3),
    ([0xA4], .undecodedA4), ([0xA5], .undecodedA5), ([0xA6], .undecodedA6), ([0xA7], .undecodedA7),
    ([0xA8], .undecodedA8), ([0xA9], .undecodedA9), ([0xAA], .undecodedAA), ([0xAB], .undecodedAB),
    ([0xAC], .undecodedAC), ([0xAD], .undecodedAD), ([0xAE], .undecodedAE), ([0xAF], .undecodedAF)] = true := by decide +kernel

theorem test_decode_row_Bx : decodesTo [
    ([0xB0], .undecodedB0), ([0xB1], .undecodedB1), ([0xB2], .undecodedB2), ([0xB3], .undecodedB3),
    ([0xB4], .undecodedB4), ([0xB5], .undecodedB5), ([0xB6], .undecodedB6), ([0xB7], .undecodedB7),
    ([0xB8], .undecodedB8), ([0xB9], .undecodedB9), ([0xBA], .undecodedBA), ([0xBB], .undecodedBB),
    ([0xBC], .undecodedBC), ([0xBD], .undecodedBD), ([0xBE], .undecodedBE), ([0xBF], .undecodedBF)] = true := by decide +kernel

theorem test_decode_row_Cx : decodesTo [
    ([0xC0], .undecodedC0), ([0xC1], .popBC), ([0xC2], .undecodedC2), ([0xC3], .undecodedC3),
    ([0xC4], .undecodedC4), ([0xC5], .pushBC), ([0xC6], .undecodedC6), ([0xC7], .undecodedC7),
    ([0xC8], .undecodedC8), ([0xC9], .undecodedC9), ([0xCA], .undecodedCA), ([0xCB], .undecodedCB),
    ([0xCC], .undecodedCC), ([0xCD], .undecodedCD), ([0xCE], .undecodedCE), ([0xCF], .undecodedCF)] = true := by decide +kernel

theorem test_decode_row_Dx : decodesTo [
    ([0xD0], .undecodedD0), ([0xD1], .popDE), ([0xD2], .undecodedD2), ([0xD3], .undecodedD3),
    ([0xD4], .undecodedD4), ([0xD5], .pushDE), ([0xD6], .undecodedD6), ([0xD7], .undecodedD7),
    ([0xD8], .undecodedD8), ([0xD9], .undecodedD9), ([0xDA], .undecodedDA), ([0xDB], .undecodedDB),
    ([0xDC], .undecodedDC), ([0xDD], .undecodedDD), ([0xDE], .undecodedDE), ([0xDF], .undecodedDF)] = true := by decide +kernel

theorem test_decode_row_Ex : decodesTo [
    ([0xE0], .undecodedE0), ([0xE1], .popHL), ([0xE2], .undecodedE2), ([0xE3], .undecodedE3),
    ([0xE4], .undecodedE4), ([0xE5], .pushHL), ([0xE6], .undecodedE6), ([0xE7], .undecodedE7),
    ([0xE8], .undecodedE8), ([0xE9], .undecodedE9), ([0xEA], .undecodedEA), ([0xEB], .undecodedEB),
    ([0xEC], .undecodedEC), ([0xED], .undecodedED), ([0xEE], .undecodedEE), ([0xEF], .undecodedEF)] = true := by decide +kernel

theorem test_decode_row_Fx : decodesTo [
    ([0xF0], .undecodedF0), ([0xF1], .popAF), ([0xF2], .undecodedF2), ([0xF3], .undecodedF3),
    ([0xF4], .undecodedF4), ([0xF5], .pushAF), ([0xF6], .undecodedF6), ([0xF7], .undecodedF7),
    ([0xF8], .undecodedF8), ([0xF9], .undecodedF9), ([0xFA], .undecodedFA), ([0xFB], .undecodedFB),
    ([0xFC], .undecodedFC), ([0xFD], .undecodedFD), ([0xFE], .undecodedFE), ([0xFF], .undecodedFF)] = true := by decide +kernel

theorem test_decode_no_bytes : decode [] = .reject .noOpcode := by decide
theorem test_decode_missing_d8 : decode [0x06] = .reject (.missingImmediate 0x06) := by decide
theorem test_decode_missing_d16_high : decode [0x01, 0x7B] = .reject (.missingImmediate 0x01) := by decide
theorem test_decode_leaves_the_rest : decode [0x06, 0x9A, 0xCB] = .instr (.ldB_d8 0x9A) [0xCB] := by decide
theorem test_decode_table_word : decodeTableWord 24 0x123401 = some (.ldBC_d16 0x1234) := by decide +kernel
theorem test_decode_table_word_bits_above_are_zero : decodeTableWord 8 0x123401 = some (.ldBC_d16 0x0000) := by
  decide +kernel
theorem test_step_of_a_fetch_word : step (State.reset.withFetchWord 24 0x123401) =
    exec (.ldBC_d16 0x1234) (State.reset.withFetchWord 24 0x123401).advancePc := rfl

/-! ### The spec's vectors -/

/-- The state right after reset, but for the bytes `code` at `a` and `pc` there. -/
def codeAt (a : Word) (code : List Byte) : State := { placeBytes State.reset a code with pc := a }

/-- What is seen of the next state of an outcome. -/
def seen {α : Type} (o : Out) (f : State → α) : Option α :=
  match o with
  | .next t => some (f t)
  | .fault _ | .refused _ => none

theorem test_S1_pair_accessors : getHigh 0x8000 = 0x80 ∧ getLow 0x8000 = 0x00 ∧ setLow 0x8000 0x80 = 0x8080 ∧
    setHigh 0x8080 0x79 = 0x7980 := by decide
theorem test_S2_flag_operations :
    let s0 : State := { State.reset with af := 0x0100 }
    (s0.setFlag .z).af = 0x0180 ∧ ((s0.setFlag .z).setFlag .c).af = 0x0190 ∧
      (((s0.setFlag .z).setFlag .c).clearFlag .z).af = 0x0110 := by decide
theorem test_S7_overlay_read : memRead (placeByte State.reset 0x0050 0xB0) 0x0050 = some 0xB0 := by decide +kernel
theorem test_S7_rom_read_after_the_overlay :
    ((memWrite { placeByte State.reset 0x0050 0xB0 with rom := [(0x50, 0xC0)] } 0xFF50 0x00).bind
      fun t => memRead t 0x0050) = some 0xC0 := by decide +kernel
theorem test_V1_write_to_B : ({ State.reset with bc := 0x0013 } : State).writeReg8 .b 0x9A =
    { State.reset with bc := 0x9A13 } := by decide
theorem test_V1_raw_write_to_F : ({ State.reset with af := 0x0100 } : State).writeF 0xFF =
    { State.reset with af := 0x01F0 } := by decide
theorem test_V2_toggle : (({ State.reset with af := 0x01B0 } : State).toggleFlag .z).af = 0x0130 := by decide
theorem test_V2_reset_flags : (({ State.reset with af := 0x01F0 } : State).resetFlags [.z, .c]).af = 0x0190 := by decide
theorem test_V2_read_flags :
    ([Flag.z, .n, .h, .c].map fun f => ({ State.reset with af := 0x01B0 } : State).flag f) = [true, false, true, true] := by
  decide
theorem test_V3_window : memRead (placeByte { State.reset with overlayEnabled := false } 0x0050 0x5A) 0x4050 = some 0x5A ∧
    memRead (placeByte State.reset 0x3FFF 0xA5) 0x7FFF = some 0xA5 := by decide +kernel
theorem test_V3_reads_that_raise : ([0xE000, 0xFDFF, 0xFE00, 0xFF00, 0xFF0F, 0xFF4F, 0xFF50, 0xFF51, 0xFF7F, 0xFFFF].all
    fun a => decide (memRead State.reset a = none)) = true := by decide +kernel
theorem test_V3_writes_that_raise : ([0xE000, 0xFF4F, 0xFF51, 0xFF7F, 0xFFFF].all
    fun a => decide (memWrite State.reset a 0x5A = none)) = true := by decide +kernel
theorem test_V3_stored_bytes_read_back : ([0x8000, 0x9FFF, 0xA000, 0xBFFF, 0xC000, 0xDFFF, 0xFF80, 0xFFFE].all fun a =>
    decide (((memWrite State.reset a 0x5A).bind fun t => memRead t a) = some 0x5A)) = true := by decide +kernel
theorem test_V3_rom_writes_are_discarded : ([0x0000, 0x0050, 0x2000, 0x7FFF].all fun a =>
    decide (memWrite State.reset a 0x5A = some State.reset)) = true := by decide +kernel
theorem test_memory_write_back_of_zero_unlists : ((memWrite State.reset 0xC000 0x5A).bind fun t => memWrite t 0xC000 0x00) =
    some State.reset := by decide +kernel

theorem test_V4_ld_b_c :
    seen (step { codeAt 0xC000 [0x41] with bc := 0x12AB })
      (fun t => (t.bc, t.pc, t.cycles)) = some (0xABAB, 0xC001, 1) := by decide +kernel
theorem test_V4_ld_h_l :
    seen (step { codeAt 0xC000 [0x65] with hl := 0x1234 })
      (fun t => (t.hl, t.pc, t.cycles)) = some (0x3434, 0xC001, 1) := by decide +kernel
theorem test_V4_ld_l_h :
    seen (step { codeAt 0xC000 [0x6C] with hl := 0x1234 })
      (fun t => (t.hl, t.pc, t.cycles)) = some (0x1212, 0xC001, 1) := by decide +kernel
theorem test_V4_ld_a_b :
    seen (step { codeAt 0xC000 [0x78] with bc := 0x0000 })
      (fun t => (t.af, t.pc, t.cycles)) = some (0x00B0, 0xC001, 1) := by decide +kernel
theorem test_V4_ld_d_e :
    seen (step { codeAt 0xC000 [0x53] with de := 0x00D8 })
      (fun t => (t.de, t.pc, t.cycles)) = some (0xD8D8, 0xC001, 1) := by decide +kernel
theorem test_V4_0x76_is_no_load :
    seen (step (codeAt 0xC000 [0x76]))
      (fun t => (t.status, t.pc, t.cycles)) = some (.faulted (.illegalOpcode 0x76 0xC000), 0xC001, 0) := by decide +kernel
theorem test_V5_ld_b_atHL :
    seen (step { placeByte (codeAt 0xC000 [0x46]) 0xC010 0x77 with hl := 0xC010, bc := 0x0013 })
      (fun t => (t.bc, t.pc, t.cycles)) = some (0x7713, 0xC001, 2) := by decide +kernel
theorem test_V5_ld_h_atHL :
    seen (step { placeByte (codeAt 0xC000 [0x66]) 0xC010 0x80 with hl := 0xC010 })
      (fun t => (t.hl, t.pc, t.cycles)) = some (0x8010, 0xC001, 2) := by decide +kernel
theorem test_V5_ld_l_atHL :
    seen (step { placeByte (codeAt 0xC000 [0x6E]) 0xC010 0x80 with hl := 0xC010 })
      (fun t => (t.hl, t.pc, t.cycles)) = some (0xC080, 0xC001, 2) := by decide +kernel
theorem test_V5_ld_a_atHL_overlay :
    seen (step { placeByte (codeAt 0xC000 [0x7E]) 0x0050 0xB0 with hl := 0x0050 })
      (fun t => (t.af, t.pc, t.cycles)) = some (0xB0B0, 0xC001, 2) := by decide +kernel
theorem test_V5_ld_a_atHL_raises :
    seen (step { codeAt 0xC000 [0x7E] with hl := 0xFF50 })
      (fun t => (t.af, t.status, t.pc, t.cycles)) = some (0x01B0, .faulted (.undecodedAddress 0xFF50 .read), 0xC001, 0) := by decide +kernel
theorem test_V5_ld_atHL_a :
    seen (step { codeAt 0xC000 [0x77] with hl := 0xA000, af := 0x3C00 })
      (fun t => (memRead t 0xA000, t.pc, t.cycles)) = some (some 0x3C, 0xC001, 2) := by decide +kernel
theorem test_V5_ld_atHL_h :
    seen (step { codeAt 0xC000 [0x74] with hl := 0xC123 })
      (fun t => (memRead t 0xC123, t.pc, t.cycles)) = some (some 0xC1, 0xC001, 2) := by decide +kernel
theorem test_V5_ld_atHL_l :
    seen (step { codeAt 0xC000 [0x75] with hl := 0xC123 })
      (fun t => (memRead t 0xC123, t.pc, t.cycles)) = some (some 0x23, 0xC001, 2) := by decide +kernel
theorem test_V5_ld_atHL_b_in_rom :
    seen (step { codeAt 0xC000 [0x70] with hl := 0x2000, bc := 0x0113 })
      (fun t => (memRead t 0x2000, t.status, t.pc, t.cycles)) = some (some 0x00, .running, 0xC001, 2) := by decide +kernel
theorem test_V5_ld_atHL_c_disables_the_overlay :
    seen (step { codeAt 0xC000 [0x71] with hl := 0xFF50 })
      (fun t => (t.overlayEnabled, t.pc, t.cycles)) = some (false, 0xC001, 2) := by decide +kernel
theorem test_V5_ld_atHL_d_raises :
    seen (step { codeAt 0xC000 [0x72] with hl := 0xFFFF })
      (fun t => (t.status, t.pc, t.cycles)) = some (.faulted (.undecodedAddress 0xFFFF .write), 0xC001, 0) := by decide +kernel
theorem test_V6_ld_b_d8 :
    seen (step { codeAt 0xC000 [0x06, 0x00] with bc := 0xFFFF })
      (fun t => (t.bc, t.pc, t.cycles)) = some (0x00FF, 0xC002, 2) := by decide +kernel
theorem test_V6_ld_a_d8 :
    seen (step (codeAt 0xC000 [0x3E, 0xFF]))
      (fun t => (t.af, t.pc, t.cycles)) = some (0xFFB0, 0xC002, 2) := by decide +kernel
theorem test_V6_ld_l_d8 :
    seen (step (codeAt 0xC000 [0x2E, 0x80]))
      (fun t => (t.hl, t.pc, t.cycles)) = some (0x0180, 0xC002, 2) := by decide +kernel
theorem test_V6_ld_atHL_d8 :
    seen (step { codeAt 0xC000 [0x36, 0x42] with hl := 0xC100 })
      (fun t => (memRead t 0xC100, t.pc, t.cycles)) = some (some 0x42, 0xC002, 3) := by decide +kernel
theorem test_V6_ld_atHL_d8_raises :
    seen (step { codeAt 0xC000 [0x36, 0x42] with hl := 0xFF00 })
      (fun t => (t.status, t.pc, t.cycles)) = some (.faulted (.undecodedAddress 0xFF00 .write), 0xC002, 0) := by decide +kernel
theorem test_V6_ld_a_d8_immediate_fetch_raises :
    seen (step (codeAt 0xDFFF [0x3E]))
      (fun t => (t.status, t.af, t.pc, t.cycles)) = some (.faulted (.undecodedAddress 0xE000 .read), 0x01B0, 0xE000, 0) := by decide +kernel
theorem test_V7_ld_atHLInc_a :
    seen (step { codeAt 0xC000 [0x22] with hl := 0xDFFF, af := 0x2200 })
      (fun t => (memRead t 0xDFFF, t.hl, t.pc, t.cycles)) = some (some 0x22, 0xE000, 0xC001, 2) := by decide +kernel
theorem test_V7_ld_atHLInc_a_raises :
    seen (step { codeAt 0xC000 [0x22] with hl := 0xFFFF })
      (fun t => (t.status, t.hl, t.pc, t.cycles)) = some (.faulted (.undecodedAddress 0xFFFF .write), 0xFFFF, 0xC001, 0) := by decide +kernel
theorem test_V7_ld_atHLDec_a :
    seen (step { codeAt 0xC000 [0x32] with hl := 0x8000, af := 0x3300 })
      (fun t => (memRead t 0x8000, t.hl, t.pc, t.cycles)) = some (some 0x33, 0x7FFF, 0xC001, 2) := by decide +kernel
theorem test_V7_ld_atHLDec_a_in_rom :
    seen (step { codeAt 0xC000 [0x32] with hl := 0x0000 })
      (fun t => (t.status, t.hl, t.pc, t.cycles)) = some (.running, 0xFFFF, 0xC001, 2) := by decide +kernel
theorem test_V7_ld_a_atHLInc :
    seen (step { placeByte (codeAt 0xC000 [0x2A]) 0x3FFF 0xAA with hl := 0x3FFF })
      (fun t => (t.af, t.hl, t.pc, t.cycles)) = some (0xAAB0, 0x4000, 0xC001, 2) := by decide +kernel
theorem test_V7_ld_a_atHLInc_raises :
    seen (step { codeAt 0xC000 [0x2A] with hl := 0xFFFF })
      (fun t => (t.status, t.af, t.hl, t.cycles)) = some (.faulted (.undecodedAddress 0xFFFF .read), 0x01B0, 0xFFFF, 0) := by decide +kernel
theorem test_V7_ld_a_atHLDec :
    seen (step { placeByte (codeAt 0xC000 [0x3A]) 0xFF80 0xAB with hl := 0xFF80 })
      (fun t => (t.af, t.hl, t.pc, t.cycles)) = some (0xABB0, 0xFF7F, 0xC001, 2) := by decide +kernel
theorem test_V8_ld_bc_d16 :
    seen (step (codeAt 0xC000 [0x01, 0x34, 0x12]))
      (fun t => (t.bc, t.af, t.pc, t.cycles)) = some (0x1234, 0x01B0, 0xC003, 3) := by decide +kernel
theorem test_V8_ld_bc_d16_second_fetch_raises :
    seen (step { codeAt 0xDFFE [0x01, 0x34] with bc := 0xAAAA })
      (fun t => (t.status, t.bc, t.pc, t.cycles)) = some (.faulted (.undecodedAddress 0xE000 .read), 0xAA34, 0xE000, 0) := by decide +kernel
theorem test_V8_ld_de_d16 :
    seen (step (codeAt 0xC000 [0x11, 0xFF, 0x00]))
      (fun t => (t.de, t.pc, t.cycles)) = some (0x00FF, 0xC003, 3) := by decide +kernel
theorem test_V8_ld_hl_d16 :
    seen (step (codeAt 0xC000 [0x21, 0x00, 0xC0]))
      (fun t => (t.hl, t.pc, t.cycles)) = some (0xC000, 0xC003, 3) := by decide +kernel
theorem test_V8_ld_sp_d16 :
    seen (step (codeAt 0xC000 [0x31, 0x01, 0xE0]))
      (fun t => (t.sp, t.pc, t.cycles)) = some (0xE001, 0xC003, 3) := by decide +kernel
theorem test_V9_push_bc :
    seen (step { codeAt 0xC000 [0xC5] with bc := 0x1234 })
      (fun t => (memRead t 0xFFFD, memRead t 0xFFFC, t.sp, t.pc, t.cycles)) = some (some 0x12, some 0x34, 0xFFFC, 0xC001, 4) := by decide +kernel
theorem test_V9_push_bc_second_write_raises :
    seen (step { codeAt 0xC000 [0xC5] with bc := 0x1234, sp := 0xFF51 })
      (fun t => (t.overlayEnabled, t.status, t.sp, t.cycles)) = some (false, .faulted (.undecodedAddress 0xFF4F .write), 0xFF4F, 0) := by decide +kernel
theorem test_V9_push_af :
    seen (step { codeAt 0xC000 [0xF5] with af := 0xABF0, sp := 0xD000 })
      (fun t => (memRead t 0xCFFF, memRead t 0xCFFE, t.sp, t.cycles)) = some (some 0xAB, some 0xF0, 0xCFFE, 4) := by decide +kernel
theorem test_V9_push_de :
    seen (step { codeAt 0xC000 [0xD5] with sp := 0xD000 })
      (fun t => (memRead t 0xCFFF, memRead t 0xCFFE, t.sp, t.cycles)) = some (some 0x00, some 0xD8, 0xCFFE, 4) := by decide +kernel
theorem test_V9_push_hl :
    seen (step { codeAt 0xC000 [0xE5] with sp := 0xD000 })
      (fun t => (memRead t 0xCFFF, memRead t 0xCFFE, t.sp, t.cycles)) = some (some 0x01, some 0x4D, 0xCFFE, 4) := by decide +kernel
theorem test_V10_pop_bc :
    seen (step { placeByte (placeByte (codeAt 0xC000 [0xC1]) 0xCFFE 0xFF) 0xCFFF 0x12 with sp := 0xCFFE })
      (fun t => (t.bc, t.sp, t.af, t.cycles)) = some (0x12FF, 0xD000, 0x01B0, 3) := by decide +kernel
theorem test_V10_pop_af :
    seen (step { placeByte (placeByte (codeAt 0xC000 [0xF1]) 0xCFFE 0xFF) 0xCFFF 0x12 with sp := 0xCFFE })
      (fun t => (t.af, t.sp, t.cycles)) = some (0x12F0, 0xD000, 3) := by decide +kernel
theorem test_V10_pop_bc_second_read_raises :
    seen (step (codeAt 0xC000 [0xC1]))
      (fun t => (t.status, t.sp, t.bc, t.cycles)) = some (.faulted (.undecodedAddress 0xFFFF .read), 0xFFFF, 0x0013, 0) := by decide +kernel
theorem test_V10_pop_hl :
    seen (step { placeByte (placeByte (codeAt 0xC000 [0xE1]) 0xC800 0xCD) 0xC801 0xAB with sp := 0xC800 })
      (fun t => (t.hl, t.sp, t.cycles)) = some (0xABCD, 0xC802, 3) := by decide +kernel
theorem test_V10_pop_de :
    seen (step { placeByte (placeByte (codeAt 0xC000 [0xD1]) 0xC800 0xCD) 0xC801 0xAB with sp := 0xC800 })
      (fun t => (t.de, t.sp, t.cycles)) = some (0xABCD, 0xC802, 3) := by decide +kernel
theorem test_V11_inc_b :
    seen (step { codeAt 0xC000 [0x04] with bc := 0xFF13, af := 0x0110 })
      (fun t => (t.bc, t.af, t.pc, t.cycles)) = some (0x0013, 0x01B0, 0xC001, 1) := by decide +kernel
theorem test_V11_dec_b :
    seen (step { codeAt 0xC000 [0x05] with bc := 0x0013, af := 0x0100 })
      (fun t => (t.bc, t.af, t.pc, t.cycles)) = some (0xFF13, 0x0160, 0xC001, 1) := by decide +kernel
theorem test_V11_inc_a :
    seen (step { codeAt 0xC000 [0x3C] with af := 0x0FF0 })
      (fun t => (t.af, t.pc, t.cycles)) = some (0x1030, 0xC001, 1) := by decide +kernel
theorem test_V11_dec_a :
    seen (step { codeAt 0xC000 [0x3D] with af := 0x0110 })
      (fun t => (t.af, t.pc, t.cycles)) = some (0x00D0, 0xC001, 1) := by decide +kernel
theorem test_V11_inc_l :
    seen (step { codeAt 0xC000 [0x2C] with hl := 0x12FF, af := 0x0100 })
      (fun t => (t.hl, t.af, t.pc, t.cycles)) = some (0x1200, 0x01A0, 0xC001, 1) := by decide +kernel
/-- V11, row by row: the operand, F before, F after. -/
theorem test_V11_inc_flags : ([(0x00, 0x00, 0x00), (0x0E, 0x00, 0x00), (0x0F, 0x00, 0x20), (0x0F, 0x10, 0x30),
    (0x10, 0xF0, 0x10), (0x7F, 0x40, 0x20), (0x9F, 0xE0, 0x20), (0xFE, 0x10, 0x10), (0xFF, 0x10, 0xB0), (0xFF, 0x00, 0xA0)].all
    fun (r : Byte × Byte × Byte) => decide (flagByte (incFlags (r.1 + 1) (decide (r.2.1 &&& 0x10 ≠ 0))) = r.2.2)) = true := by
  decide +kernel
theorem test_V11_dec_flags : ([(0x01, 0x00, 0xC0), (0x00, 0x00, 0x60), (0x00, 0x10, 0x70), (0x10, 0x00, 0x60),
    (0x11, 0xB0, 0x50), (0x0F, 0x00, 0x40), (0x80, 0x10, 0x70), (0xFF, 0x80, 0x40), (0x20, 0x30, 0x70), (0x02, 0xF0, 0x50)].all
    fun (r : Byte × Byte × Byte) => decide (flagByte (decFlags (r.1 - 1) (decide (r.2.1 &&& 0x10 ≠ 0))) = r.2.2)) = true := by
  decide +kernel
theorem test_V12_inc_bc :
    seen (step { codeAt 0xC000 [0x03] with bc := 0x00FF, af := 0x0100 })
      (fun t => (t.bc, t.af, t.pc, t.cycles)) = some (0x0100, 0x0100, 0xC001, 2) := by decide +kernel
theorem test_V12_inc_de :
    seen (step { codeAt 0xC000 [0x13] with de := 0xFFFF, af := 0x0100 })
      (fun t => (t.de, t.af, t.pc, t.cycles)) = some (0x0000, 0x0100, 0xC001, 2) := by decide +kernel
theorem test_V12_inc_hl :
    seen (step { codeAt 0xC000 [0x23] with hl := 0x12FF, af := 0x0100 })
      (fun t => (t.hl, t.af, t.pc, t.cycles)) = some (0x1300, 0x0100, 0xC001, 2) := by decide +kernel
theorem test_V12_inc_sp :
    seen (step { codeAt 0xC000 [0x33] with sp := 0xFFFE, af := 0x0100 })
      (fun t => (t.sp, t.af, t.pc, t.cycles)) = some (0xFFFF, 0x0100, 0xC001, 2) := by decide +kernel
theorem test_V12_dec_bc :
    seen (step { codeAt 0xC000 [0x0B] with bc := 0x0000, af := 0x0100 })
      (fun t => (t.bc, t.af, t.pc, t.cycles)) = some (0xFFFF, 0x0100, 0xC001, 2) := by decide +kernel
theorem test_V12_dec_de :
    seen (step { codeAt 0xC000 [0x1B] with de := 0x0100, af := 0x0100 })
      (fun t => (t.de, t.af, t.pc, t.cycles)) = some (0x00FF, 0x0100, 0xC001, 2) := by decide +kernel
theorem test_V12_dec_hl :
    seen (step { codeAt 0xC000 [0x2B] with hl := 0x0001, af := 0x0100 })
      (fun t => (t.hl, t.af, t.pc, t.cycles)) = some (0x0000, 0x0100, 0xC001, 2) := by decide +kernel
theorem test_V12_dec_sp :
    seen (step { codeAt 0xC000 [0x3B] with sp := 0x0000, af := 0x0100 })
      (fun t => (t.sp, t.af, t.pc, t.cycles)) = some (0xFFFF, 0x0100, 0xC001, 2) := by decide +kernel
theorem test_V12_nop : step (codeAt 0xC000 [0x00]) =
    .next { codeAt 0xC000 [0x00] with pc := 0xC001, cycles := 1 } := rfl
theorem test_V12_stop : step (codeAt 0xC000 [0x10]) =
    .next { codeAt 0xC000 [0x10] with pc := 0xC001, status := .faulted (.unimplemented 0x10 0xC000) } := rfl
theorem test_V12_0xCB : step (codeAt 0xDFFF [0xCB]) =
    .next { codeAt 0xDFFF [0xCB] with pc := 0xE000, status := .faulted (.illegalOpcode 0xCB 0xDFFF) } := rfl
theorem test_reset_values : (State.reset.af, State.reset.sp, State.reset.cycles, State.reset.halted, State.reset.status,
    State.reset.overlayEnabled) = (0x01B0, 0xFFFE, 0, false, .running, true) := by decide

/-! ### Witnesses: a state and operands that meet the hypotheses of each obligation, clause by clause -/

theorem reset_inv : State.reset.Inv := ⟨by decide, by decide, by decide⟩

/-- Code in work RAM keeps the invariant. -/
theorem codeAt_one_inv (op : Byte) : (codeAt 0xC000 [op]).Inv :=
  inv_of_memoriesWf (placeByte_inv reset_inv 0xC000 op) rfl rfl (placeByte_inv reset_inv 0xC000 op).memories

theorem codeAt_enabled (a : Word) (op : Byte) : (codeAt a [op]).enabled :=
  ⟨(placeByte_fields State.reset a op).2.1, (placeByte_fields State.reset a op).2.2.1⟩

theorem witness_EncodingADecodingGivesTheBytes :
    decode [0x01, 0x34, 0x12, 0xFF] = .instr (.ldBC_d16 0x1234) [0xFF] := by decide
theorem witness_DecodingFailsOnlyForMissingBytes :
    decode [0x01, 0x34, 0x12] = .instr (.ldBC_d16 0x1234) [] ∧ decode [0x01, 0x34] = .reject (.missingImmediate 0x01) ∧
    decode [0x01] = .reject (.missingImmediate 0x01) ∧ decode [0x00] = .instr .nop [] := by decide
theorem witness_InstructionLengths : (Instr.ldB_d8 0x00).form.opcode = (Instr.ldB_d8 0xFF).form.opcode := by decide
theorem witness_StepRunsTheDecodedInstruction :
    (codeAt 0xC000 [0x06, 0x9A]).status = .running ∧ (codeAt 0xC000 [0x06, 0x9A]).halted = false ∧
    readBytes (codeAt 0xC000 [0x06, 0x9A]) 0xC000 2 = some [0x06, 0x9A] ∧
    decode [0x06, 0x9A] = .instr (.ldB_d8 0x9A) [] := by decide +kernel
theorem witness_OpcodeFetchFaultLeavesPc : ([0xE000, 0xFF50, 0xFF7F, 0xFFFF].all fun a =>
    decide (({ State.reset with pc := a } : State).status = .running) && undecodedForRead a) = true := by decide
theorem witness_WordImmediateFetchFaults :
    memRead (codeAt 0xDFFF [0x01]) 0xDFFF = some (Instr.ldBC_d16 0x0000).form.opcode ∧
    undecodedForRead (0xDFFF + 1) = true ∧
    memRead (codeAt 0xDFFE [0x31, 0x34]) 0xDFFE = some (Instr.ldSP_d16 0x0000).form.opcode ∧
    memRead (codeAt 0xDFFE [0x31, 0x34]) (0xDFFE + 1) = some 0x34 ∧ undecodedForRead (0xDFFE + 2) = true := by decide +kernel
theorem witness_StepIsNotEnabledWhenFaultedOrHalted :
    (takeFault (.unimplemented 0x10 0xC000) State.reset).status = .faulted (.unimplemented 0x10 0xC000) ∧
    ({ State.reset with halted := true } : State).status = .running ∧
    ({ State.reset with halted := true } : State).halted = true := by decide
/-- For `CompletedStepAdvancesPcByLength`, `StepChargesTheTableCost` (1), `StepResultIsCostOrFaultOrNothing` and `CyclesNeverDecrease` (2). -/
theorem witness_Completes : Completes (codeAt 0xC000 [0x00]) { codeAt 0xC000 [0x00] with pc := 0xC001, cycles := 1 } :=
  ⟨rfl, rfl⟩
/-- The four `Raises` are for `FaultCausesAndWhatTheyRecord`, `FaultsAreFatal` and `StepChargesTheTableCost` (2). -/
theorem witness_Raises_Unimplemented : Raises (codeAt 0xC000 [0x10]) (.unimplemented 0x10 0xC000)
    { codeAt 0xC000 [0x10] with pc := 0xC001, status := .faulted (.unimplemented 0x10 0xC000) } := ⟨rfl, rfl⟩
theorem witness_Raises_IllegalOpcode : Raises (codeAt 0xC000 [0xCB]) (.illegalOpcode 0xCB 0xC000)
    { codeAt 0xC000 [0xCB] with pc := 0xC001, status := .faulted (.illegalOpcode 0xCB 0xC000) } := ⟨rfl, rfl⟩
theorem witness_Raises_UndecodedAddress_read : Raises { State.reset with pc := 0xFFFF } (.undecodedAddress 0xFFFF .read)
    { State.reset with pc := 0xFFFF, status := .faulted (.undecodedAddress 0xFFFF .read) } := ⟨rfl, rfl⟩
theorem witness_Raises_UndecodedAddress_write :
    Raises { codeAt 0xC000 [0x70] with hl := 0xE000 } (.undecodedAddress 0xE000 .write)
      { codeAt 0xC000 [0x70] with hl := 0xE000, pc := 0xC001, status := .faulted (.undecodedAddress 0xE000 .write) } :=
  ⟨rfl, rfl⟩
/-- A fault at each other access: the immediates, the load through HL, and the two addresses of a pop and of a push. -/
theorem witness_FaultCausesAndWhatTheyRecord :
    seen (step (codeAt 0xDFFF [0x36])) (fun t => t.status) = some (.faulted (.undecodedAddress 0xE000 .read)) ∧
    seen (step (codeAt 0xDFFF [0x01])) (fun t => t.status) = some (.faulted (.undecodedAddress 0xE000 .read)) ∧
    seen (step (codeAt 0xDFFE [0x01, 0x34])) (fun t => t.status) = some (.faulted (.undecodedAddress 0xE000 .read)) ∧
    seen (step { codeAt 0xC000 [0x2A] with hl := 0xFF50 }) (fun t => t.status) =
      some (.faulted (.undecodedAddress 0xFF50 .read)) ∧
    (([0xFFFF, 0xFFFE, 0xE000, 0xDFFF] : List Word).map fun sp => seen (step { codeAt 0xC000 [0xC1] with sp := sp })
      (fun t => t.status)) = [0xFFFF, 0xFFFF, 0xE000, 0xE000].map (fun a => some (.faulted (.undecodedAddress a .read))) ∧
    (([0x0000, 0x0001, 0xFF81, 0xE001] : List Word).map fun sp => seen (step { codeAt 0xC000 [0xC5] with sp := sp })
      (fun t => t.status)) = [0xFFFF, 0xFFFF, 0xFF7F, 0xE000].map (fun a => some (.faulted (.undecodedAddress a .write))) := by
  decide +kernel
theorem witness_StepResultIsCostOrFaultOrNothing : State.reset.params.wf = true := by decide
/-- Also for `StepKeepsRomBootParametersAndHalted` and `NothingReadsTheCycleCounter`, whose hypothesis is the Step alone. -/
theorem witness_EveryStepKeepsTheInvariant :
    (codeAt 0xC000 [0x04]).Inv ∧ ∃ t, step (codeAt 0xC000 [0x04]) = .next t :=
  ⟨codeAt_one_inv 0x04, step_answers (codeAt_enabled 0xC000 0x04)⟩
theorem witness_FreshInstancesSatisfyTheInvariant :
    State.constructChecked defaultParams emptyImages = some State.reset ∧
    (State.constructChecked { defaultParams with resetPc := 0x0000 } emptyImages).isSome = true := by decide
/-- For `ReachableStatesAreLegalAndNotHalted`. -/
theorem witness_Reachable : Reachable State.reset := .fresh defaultParams emptyImages _ (by decide)
theorem witness_CyclesNeverDecrease : ∃ t, runSteps 2 (codeAt 0xC000 [0x00, 0x04]) = .next t ∧ t.cycles = 2 := ⟨_, rfl, rfl⟩
theorem witness_OverlayFlag_a_store_disables_it :
    seen (step { codeAt 0xC000 [0x70] with hl := 0xFF50 }) (fun t => t.overlayEnabled) = some false ∧
    seen (step { codeAt 0xC000 [0xC5] with sp := 0xFF51 }) (fun t => t.overlayEnabled) = some false ∧
    seen (step { codeAt 0xC000 [0xC5] with sp := 0xFF52 }) (fun t => t.overlayEnabled) = some true := by decide +kernel
theorem witness_OverlayFlag_stays_disabled :
    ({ codeAt 0xC000 [0x00] with overlayEnabled := false } : State).overlayEnabled = false ∧
    ∃ t, runSteps 1 { codeAt 0xC000 [0x00] with overlayEnabled := false } = .next t := ⟨rfl, _, rfl⟩
theorem witness_StackPointerIsWrittenOnlyByItsInstructions : ([Instr.pushBC, .popBC, .ldSP_d16 0xD000, .incSP, .decSP].all
    fun i => decide ((seen (exec i { State.reset with sp := 0xC800 }) (fun t => decide (t.sp ≠ 0xC800))) = some true)) = true := by
  decide +kernel
theorem witness_FlagsAreWrittenOnlyByIncDecAndPopAf :
    seen (exec .incB State.reset) (fun t => t.readF) = some 0x10 ∧ seen (exec .decB State.reset) (fun t => t.readF) = some 0x70 ∧
    seen (exec .popAF { State.reset with sp := 0xC800 }) (fun t => (t.readF, t.flag .c)) = some (0x00, false) ∧
    State.reset.readF = 0xB0 ∧ State.reset.flag .c = true := by decide +kernel
theorem witness_OnlyStoresAndPushWriteMemory : ∃ t, exec (.popBC) { State.reset with sp := 0xC800 } = .next t := ⟨_, rfl⟩
theorem witness_RamReadsBackWhatWasWritten : State.reset.Inv ∧
    ([0x8000, 0x9FFF, 0xA000, 0xBFFF, 0xC000, 0xDFFF, 0xFF80, 0xFFFE].all fun a => isRam a) = true ∧
    ([0x7FFF, 0xE000, 0xFF7F, 0xFFFF].any fun a => isRam a) = false := ⟨reset_inv, by decide⟩
theorem witness_OverlayAndRomReads :
    memRead (placeByte State.reset 0x00FF 0x11) 0x00FF = some 0x11 ∧ (placeByte State.reset 0x00FF 0x11).rom = [] ∧
    memRead (placeByte { State.reset with overlayEnabled := false } 0x00FF 0x22) 0x00FF = some 0x22 ∧
    memRead (placeByte State.reset 0x0100 0x33) 0x0100 = some 0x33 ∧
    memRead (placeByte State.reset 0x3FFF 0x44) 0x3FFF = some 0x44 ∧
    (memWrite State.reset 0xFF50 0x00).isSome = true := by decide +kernel
theorem witness_TheWindowRepeatsBankZero : State.reset.params.wf = true ∧
    memRead (placeByte State.reset 0x4000 0x55) 0x4000 = some 0x55 ∧ (placeByte State.reset 0x7FFF 0x66).rom = [(0x3FFF, 0x66)] ∧
    (∀ k, k < 0x4000 → Memory.read [(0x4000, 0x77)] k = State.reset.rom.read k) :=
  ⟨by decide, by decide +kernel, by decide +kernel, fun k hk => if_neg (by omega)⟩
theorem witness_StoredByteIsTheNextOpcode : (codeAt 0xC000 [0x00]).Inv ∧ (codeAt 0xC000 [0x00]).enabled ∧
    isRam (codeAt 0xC000 [0x00]).pc = true ∧ (memWrite (codeAt 0xC000 [0x00]) 0xC000 0x04).isSome = true ∧
    decode [0x04] = .instr .incB [] := ⟨codeAt_one_inv 0x00, codeAt_enabled 0xC000 0x00, by decide +kernel⟩
theorem witness_FlagOperations : State.reset.readF &&& 0x0F = 0 := by decide
/-- With the two theorems after it, for the nine statements of the 8-bit loads, which ask for a form and a pointer that decodes or does not. -/
theorem witness_forms_of_the_8_bit_loads :
    Instr.ldB_C.form = .ldRegReg .b .c ∧ Instr.ldA_A.form = .ldRegReg .a .a ∧ Instr.ldH_atHL.form = .ldRegAtHL .h ∧
    Instr.ldAtHL_L.form = .ldAtHLReg .l ∧ (Instr.ldA_d8 0xFF).form = .ldRegImm .a 0xFF ∧
    (Instr.ldAtHL_d8 0x42).form = .ldAtHLImm 0x42 ∧ Instr.ldAtHLInc_A.form = .ldAtHLIncA ∧
    Instr.ldAtHLDec_A.form = .ldAtHLDecA ∧ Instr.ldA_atHLInc.form = .ldAAtHLInc ∧ Instr.ldA_atHLDec.form = .ldAAtHLDec := by
  decide
theorem witness_pointers_that_decode : State.reset.Inv ∧
    ([0x0000, 0x7FFF, 0x8000, 0xDFFF, 0xFF80, 0xFFFE].any fun a => undecodedForRead a || undecodedForWrite a) = false ∧
    undecodedForWrite 0xFF50 = false ∧ undecodedForRead 0xFF50 = true := ⟨reset_inv, by decide⟩
theorem witness_pointers_that_do_not_decode :
    ([0xE000, 0xFF4F, 0xFF51, 0xFF7F, 0xFFFF].all fun a => undecodedForRead a && undecodedForWrite a) = true := by decide
/-- For the third clauses of `LoadRegisterImmediate` and `StoreImmediateAtPointer`. -/
theorem witness_byte_immediate_fetch_faults :
    memRead (codeAt 0xDFFF [0x3E]) 0xDFFF = some (Instr.ldA_d8 0x00).form.opcode ∧
    memRead (codeAt 0xDFFF [0x36]) 0xDFFF = some (Instr.ldAtHL_d8 0x00).form.opcode ∧
    (codeAt 0xDFFF [0x3E]).status = .running ∧ (codeAt 0xDFFF [0x3E]).halted = false ∧
    undecodedForRead (0xDFFF + 1) = true := by decide +kernel
/-- For `LoadPairImmediate`, `IncrementByteRegister`, `DecrementByteRegister`, `IncrementAndDecrementPair` and, with the theorems after it, the stack. -/
theorem witness_forms_of_the_stack_and_pair_instructions :
    (Instr.ldSP_d16 0xFFFE).form = .ldPairImm .sp 0xFFFE ∧ Instr.pushAF.form = .push .af ∧ Instr.popAF.form = .pop .af ∧
    Instr.incSP.form = .incPair .sp ∧ Instr.decHL.form = .decPair .hl ∧ Instr.incA.form = .incReg .a ∧
    Instr.decL.form = .decReg .l ∧ Instr.undecodedCB.form = .undecoded 0xCB := by decide
theorem witness_PushStoresHighThenLow : State.reset.Inv ∧
    ([0xFFFE, 0x8001, 0x8000, 0xE000, 0xC001, 0xFF82, 0x0002].any fun (sp : Word) =>
      undecodedForWrite (sp - 1) || undecodedForWrite (sp - 2)) = false ∧
    isRam (0xFFFE - 1) = true ∧ isRam (0x8001 - 1) = true ∧ isRam (0x8001 - 2) = false ∧ isRam (0x8000 - 1) = false :=
  ⟨reset_inv, by decide⟩
theorem witness_PushRaisesAfterItsDecrements :
    ([0xE001, 0xFF52, 0x0000].all fun (sp : Word) => undecodedForWrite (sp - 1)) = true ∧
    ([0xFF81, 0xFF51, 0x0001].all fun (sp : Word) => !undecodedForWrite (sp - 1) && undecodedForWrite (sp - 2)) = true := by
  decide
theorem witness_PopLoadsLowThenHigh :
    ([0xFFFD, 0x7FFF, 0xDFFE, 0xFF80, 0x0000].any fun (sp : Word) => undecodedForRead sp || undecodedForRead (sp + 1)) = false := by
  decide
theorem witness_PopRaisesWithoutWritingThePair :
    ([0xE000, 0xFF50, 0xFF7F, 0xFFFF].all fun (sp : Word) => undecodedForRead sp) = true ∧
    ([0xDFFF, 0xFFFE].all fun (sp : Word) => !undecodedForRead sp && undecodedForRead (sp + 1)) = true := by decide
theorem witness_PushThenPopMovesThePair : State.reset.Inv ∧
    ([0xFFFE, 0x8002, 0xE000, 0xFF82, 0xFFFF].all fun (sp : Word) => isRam (sp - 1) && isRam (sp - 2)) = true :=
  ⟨reset_inv, by decide⟩
theorem witness_HalfCarryIsTheNibbleCarry : (∃ t, exec .incB State.reset = .next t) ∧ ∃ t, exec .decB State.reset = .next t :=
  ⟨⟨_, rfl⟩, ⟨_, rfl⟩⟩
theorem witness_NopOnlyCountsACycle : (codeAt 0xC000 [0x00]).enabled ∧
    memRead (codeAt 0xC000 [0x00]) 0xC000 = some Form.nop.opcode := ⟨codeAt_enabled 0xC000 0x00, by decide +kernel⟩
theorem witness_StopTraps : (codeAt 0xDFFF [0x10]).enabled ∧ memRead (codeAt 0xDFFF [0x10]) 0xDFFF = some 0x10 :=
  ⟨codeAt_enabled 0xDFFF 0x10, by decide +kernel⟩
theorem witness_UndecodedOpcodesRaiseIllegalOpcode : (codeAt 0xDFFF [0xFF]).enabled ∧ isUndecodedOpcode 0xFF = true ∧
    memRead (codeAt 0xDFFF [0xFF]) 0xDFFF = some 0xFF := ⟨codeAt_enabled 0xDFFF 0xFF, by decide +kernel⟩
theorem witness_PlacedWordIsTheNextInstruction : State.reset.Inv := reset_inv

end Sys2Proof.Tests
end

section
/-! Support for the statements about the state (spec/10_state): the constraints on the parameters and on a construction,
what a store keeps, and what the instructions keep, form by form. -/

namespace Sys2Proof.Machine

/-! ### Parameters and construction -/

/-- The constraints of 00_scope R6, one by one. -/
theorem params_wf_iff (p : Params) : p.wf = true ↔
    0x4000 ≤ p.romLen ∧ p.windowBank = 0 ∧ (p.resetPc = 0x0100 ∨ p.resetPc = 0x0000) ∧
    1 ≤ p.cycPush ∧ 1 ≤ p.cycPop := by
  simp [Params.wf, and_assoc]

/-- A checked construction (70_reset_and_hazards R174) is the construction, where its preconditions hold. -/
theorem constructChecked_eq_some_iff {p : Params} {img : Images} {s : State} :
    State.constructChecked p img = some s ↔ p.wf = true ∧ img.wf p = true ∧ s = State.construct p img := by
  simp only [State.constructChecked, Option.ite_none_right_eq_some, Option.some.injEq, Bool.and_eq_true, and_assoc,
    eq_comm (a := s)]

/-- A construction from legal parameters and contents meets the invariant. -/
theorem construct_inv {p : Params} {img : Images} (hp : p.wf = true) (himg : img.wf p = true) :
    (State.construct p img).Inv :=
  ⟨himg, show getLow resetAf &&& 0x0F = 0 by decide, hp⟩

/-! ### What a store keeps -/

section
variable {s t : State} {a : Word} {v : Byte}

theorem memWrite_af (h : memWrite s a v = some t) : t.af = s.af := by rw [memWrite_frame h]
theorem memWrite_sp (h : memWrite s a v = some t) : t.sp = s.sp := by rw [memWrite_frame h]
theorem memWrite_halted (h : memWrite s a v = some t) : t.halted = s.halted := by rw [memWrite_frame h]
theorem memWrite_cycles (h : memWrite s a v = some t) : t.cycles = s.cycles := by rw [memWrite_frame h]
theorem memWrite_rom (h : memWrite s a v = some t) : t.rom = s.rom := by rw [memWrite_frame h]
theorem memWrite_boot (h : memWrite s a v = some t) : t.boot = s.boot := by rw [memWrite_frame h]
theorem memWrite_params (h : memWrite s a v = some t) : t.params = s.params := by rw [memWrite_frame h]

theorem memWrite_readF (h : memWrite s a v = some t) : t.readF = s.readF := by
  rw [State.readF, State.readF, memWrite_af h]

/-- A store elsewhere than at 0xFF50 keeps the overlay flag (20_memory R53). -/
theorem memWrite_overlay_of_ne (h : memWrite s a v = some t) (ha : a ≠ 0xFF50) :
    t.overlayEnabled = s.overlayEnabled := by
  have hr : regionOf a ≠ .overlayDisable := fun hr => ha ((regionOf_overlayDisable_iff a).1 hr)
  rw [memWrite_overlay h, decide_eq_true hr, Bool.and_true]

end

/-! ### What an instruction writes, by its form -/

/-- The pairs a form writes whole, but for `POP rr` (42_load16_stack R120, 43_incdec R132, R133, 41_load_8bit R105 to
R108). -/
def WritesPair (r : Pair) : Form → Prop
  | .ldPairImm q _ | .incPair q | .decPair q => q = r
  | .ldAtHLIncA | .ldAtHLDecA | .ldAAtHLInc | .ldAAtHLDec => r = .hl
  | _ => False

/-- The addresses a form stores at from the state `s` (41_load_8bit R102, R104 to R106, 42_load16_stack R121). -/
def StoresAt (s : State) (a : Word) : Form → Prop
  | .ldAtHLReg _ | .ldAtHLImm _ | .ldAtHLIncA | .ldAtHLDecA => a = s.hl
  | .push _ => a = s.sp - 1 ∨ a = s.sp - 2
  | _ => False

/-- A property of states kept by the operations that the form `f` is built of from the state `s`: `Kept`, but with a write
of a pair, of F, of SP or of memory asked for only where this form does it. -/
structure KeptBy (P : State → Prop) (f : Form) (s : State) : Prop where
  advancePc : ∀ t, P t → P t.advancePc
  addCycles : ∀ t n, P t → P (t.addCycles n)
  takeFault : ∀ t c, P t → P (takeFault c t)
  writeReg8 : ∀ t r v, P t → P (t.writeReg8 r v)
  writePair : ∀ t r v, WritesPair r f → P t → P (t.writePair r v)
  writeStackPair : ∀ t r v, f = .pop r → P t → P (t.writeStackPair r v)
  incFlags : ∀ t r v, f = .incReg r → P t → P (t.resetFlags (incFlags v (t.flag .c)))
  decFlags : ∀ t r v, f = .decReg r → P t → P (t.resetFlags (decFlags v (t.flag .c)))
  decSp : ∀ t r, f = .push r → P t → P t.decSp
  incSp : ∀ t r, f = .pop r → P t → P t.incSp
  memWrite : ∀ t a v u, StoresAt s a f → P t → memWrite t a v = some u → P u

/-- What the operations of its form keep, an instruction keeps. -/
theorem KeptBy.exec {P : State → Prop} {i : Instr} {s : State} (K : KeptBy P i.form s) (h : P s) :
    Sat P (exec i s) := by
  rw [exec_eq_runForm]
  generalize i.form = f at K
  have R : ∀ {t a k}, P t → (∀ v, Sat P (k v)) → Sat P (withRead t a k) := fun ht hk =>
    sat_withRead.2 ⟨fun v _ => hk v, fun _ => K.takeFault _ _ ht⟩
  have W : ∀ {t a v k}, StoresAt s a f → P t → (∀ u, Machine.memWrite t a v = some u → P u → Sat P (k u)) →
      Sat P (withWrite t a v k) := fun ha ht hk =>
    sat_withWrite.2 ⟨fun u hu => hk u hu (K.memWrite _ _ _ _ ha ht hu), fun _ => K.takeFault _ _ ht⟩
  have C : ∀ {t n}, P t → Sat P (returnCost n t) := fun ht => sat_returnCost.2 (K.addCycles _ _ ht)
  have F : ∀ {t c}, P t → Sat P (raise c t) := fun ht => sat_raise.2 (K.takeFault _ _ ht)
  have carry : ∀ r v, (s.writeReg8 r v).flag .c = s.flag .c := fun r v =>
    State.flag_congr (State.readF_writeReg8 s r v) .c
  cases f with
  | nop => exact C h
  | stop => exact F h
  | undecoded => exact F h
  | ldRegReg => exact C (K.writeReg8 _ _ _ h)
  | ldRegAtHL => exact R h fun v => C (K.writeReg8 _ _ _ h)
  | ldAtHLReg => exact W rfl h fun u _ hu => C hu
  | ldRegImm => exact C (K.writeReg8 _ _ _ (K.advancePc _ h))
  | ldAtHLImm => exact W rfl (K.advancePc _ h) fun u _ hu => C hu
  | ldAtHLIncA => exact W rfl h fun u _ hu => C (K.writePair _ _ _ rfl hu)
  | ldAtHLDecA => exact W rfl h fun u _ hu => C (K.writePair _ _ _ rfl hu)
  | ldAAtHLInc => exact R h fun v => C (K.writePair _ _ _ rfl (K.writeReg8 _ _ _ h))
  | ldAAtHLDec => exact R h fun v => C (K.writePair _ _ _ rfl (K.writeReg8 _ _ _ h))
  | ldPairImm =>
    exact C (K.writePair _ _ _ rfl (K.advancePc _ (K.writePair _ _ _ rfl (K.advancePc _ h))))
  | push r =>
    refine W (.inl rfl) (K.decSp _ r rfl h) fun u hu hPu => W (.inr ?_) (K.decSp _ r rfl hPu) fun w _ hw => C hw
    rw [State.decSp_sp, memWrite_sp hu, State.decSp_sp, BitVec.sub_sub]
    rfl
  | pop r =>
    exact R h fun lo => R (K.incSp _ r rfl h) fun hi =>
      C (K.writeStackPair _ _ _ rfl (K.incSp _ r rfl (K.incSp _ r rfl h)))
  | incReg r =>
    refine C ?_
    rw [← carry r]
    exact K.incFlags _ r _ rfl (K.writeReg8 _ _ _ h)
  | decReg r =>
    refine C ?_
    rw [← carry r]
    exact K.decFlags _ r _ rfl (K.writeReg8 _ _ _ h)
  | incPair => exact C (K.writePair _ _ _ rfl h)
  | decPair => exact C (K.writePair _ _ _ rfl h)

end Sys2Proof.Machine
end

section
/-! The invariant and what every Step keeps (spec/10_state R23, R25, R28). -/

namespace Sys2Proof.Machine

/-! ### The invariant -/

/-- A state with the stores and the parameters of a legal one, and a zero low nibble of F, is legal. -/
theorem inv_of_sameStores {s t : State} (hi : s.Inv) (hm : t.memoriesWf = s.memoriesWf) (hp : t.params = s.params)
    (hf : t.readF &&& 0x0F = 0) : t.Inv :=
  ⟨hm.trans hi.memories, hf, by rw [hp]; exact hi.params⟩

/-- A write of a pair from the stack clears the low nibble of F or leaves F (R23). -/
theorem writeStackPair_flagNibble {s : State} (h : s.readF &&& 0x0F = 0) (r : StackPair) (v : Word) :
    (s.writeStackPair r v).readF &&& 0x0F = 0 := by
  cases r with
  | af =>
    show getLow (v &&& 0xFFF0) &&& 0x0F = 0
    rw [getLow_and_af, masked_and_low]
  | bc => exact h
  | de => exact h
  | hl => exact h

/-- Every operation keeps the invariant: the registers and flags by R23, a store by the canonical form it keeps. -/
theorem kept_inv : Kept State.Inv where
  writeReg8 s r v h := inv_of_sameStores h (by simp [State.memoriesWf]) (by simp) (by simpa using h.flagNibble)
  writePair s r v h := inv_of_sameStores h (by simp [State.memoriesWf]) (by simp) (by simpa using h.flagNibble)
  writeStackPair s r v h :=
    inv_of_sameStores h (by simp [State.memoriesWf]) (by simp) (writeStackPair_flagNibble h.flagNibble r v)
  resetFlags s fs h := inv_of_sameStores h rfl rfl (by rw [State.readF_resetFlags, flagByte_and_low])
  advancePc s h := inv_of_sameStores h rfl rfl h.flagNibble
  decSp s h := inv_of_sameStores h rfl rfl h.flagNibble
  incSp s h := inv_of_sameStores h rfl rfl h.flagNibble
  addCycles s n h := inv_of_sameStores h rfl rfl h.flagNibble
  takeFault s c h := inv_of_sameStores h rfl rfl h.flagNibble
  memWrite s a v t h ht := inv_of_memoriesWf h (memWrite_af ht) (memWrite_params ht) (memWrite_memoriesWf h.memories ht)

/-- A fresh CPU over legal memories is legal (70_reset_and_hazards R171). -/
theorem reconstructCpu_inv {s : State} (h : s.Inv) : s.reconstructCpu.Inv :=
  inv_of_sameStores h rfl rfl (show getLow resetAf &&& 0x0F = 0 by decide)

/-! ### The part of the state that nothing changes -/

/-- ROM, BOOT, the parameters and `halted` are as they were (R25, R28; 00_scope R6). -/
def SameFixed (s t : State) : Prop :=
  t.rom = s.rom ∧ t.boot = s.boot ∧ t.params = s.params ∧ t.halted = s.halted

theorem kept_sameFixed (s : State) : Kept (SameFixed s) where
  writeReg8 t r v h := by simpa [SameFixed] using h
  writePair t r v h := by simpa [SameFixed] using h
  writeStackPair t r v h := by simpa [SameFixed] using h
  resetFlags _ _ h := h
  advancePc _ h := h
  decSp _ h := h
  incSp _ h := h
  addCycles _ _ h := h
  takeFault _ _ h := h
  memWrite t a v u h hu := by
    simpa [SameFixed, memWrite_rom hu, memWrite_boot hu, memWrite_params hu, memWrite_halted hu] using h

/-- Settles O24: no operation changes any of the four fields. -/
theorem stepKeepsRomBootParametersAndHalted : Obligations.StepKeepsRomBootParametersAndHalted :=
  fun s _ h => (kept_sameFixed s).step ⟨rfl, rfl, rfl, rfl⟩ h

/-- Settles O16: every operation keeps the invariant. -/
theorem everyStepKeepsTheInvariant : Obligations.EveryStepKeepsTheInvariant :=
  fun _ _ hi h => kept_inv.step hi h

/-- Settles O17: the checks of a construction are the invariant's, and the defaults pass them. -/
theorem freshInstancesSatisfyTheInvariant : Obligations.FreshInstancesSatisfyTheInvariant := by
  refine ⟨construct_inv (by decide) (by decide), fun p img s h => ?_⟩
  obtain ⟨hp, himg, rfl⟩ := constructChecked_eq_some_iff.1 h
  exact construct_inv hp himg

/-- Settles O58: a construction by its definition, and the checks it has passed. -/
theorem freshInstanceValues : Obligations.FreshInstanceValues := by
  refine ⟨fun p img => rfl, fun p img s h => ?_⟩
  obtain ⟨hp, -, hs⟩ := constructChecked_eq_some_iff.1 h
  obtain ⟨hlen, -, hpc, -, -⟩ := (params_wf_iff p).1 hp
  exact ⟨hs, hlen, hpc⟩

/-- Settles O18, by induction on how the state is reached. -/
theorem reachableStatesAreLegalAndNotHalted : Obligations.ReachableStatesAreLegalAndNotHalted := by
  intro s hs
  induction hs with
  | fresh p img s h =>
    refine ⟨freshInstancesSatisfyTheInvariant.2 p img s h, ?_⟩
    rw [(constructChecked_eq_some_iff.1 h).2.2]
    rfl
  | step s t _ h ih =>
    obtain ⟨hinv, hhalted⟩ := ih
    obtain ⟨-, -, -, hkept⟩ := stepKeepsRomBootParametersAndHalted s t h
    exact ⟨everyStepKeepsTheInvariant s t hinv h, hkept.trans hhalted⟩
  | reconstructCpu s _ ih => exact ⟨reconstructCpu_inv ih.1, rfl⟩

end Sys2Proof.Machine
end

section
/-! Which instructions write SP, F, the carry flag and the overlay flag (spec/10_state R15, R24, R29): each is kept by the
operations of every other form. -/

namespace Sys2Proof.Machine

/-! ### The stack pointer -/

theorem writePair_sp_of_ne {r : Pair} (hr : r ≠ .sp) (s : State) (v : Word) : (s.writePair r v).sp = s.sp := by
  cases r with
  | sp => exact absurd rfl hr
  | bc => rfl
  | de => rfl
  | hl => rfl

/-- The forms that write SP as a pair. -/
theorem writesPair_sp_iff (f : Form) :
    WritesPair .sp f ↔ (∃ d, f = .ldPairImm .sp d) ∨ f = .incPair .sp ∨ f = .decPair .sp := by
  cases f <;> simp [WritesPair]

theorem keptBy_sp {f : Form} {s : State} (hpush : ∀ r, f ≠ .push r) (hpop : ∀ r, f ≠ .pop r)
    (hpair : ¬ WritesPair .sp f) : KeptBy (fun t => t.sp = s.sp) f s where
  advancePc _ h := h
  addCycles _ _ h := h
  takeFault _ _ h := h
  writeReg8 t r v h := by simpa using h
  writePair t r v hr h := by
    have hsp : r ≠ .sp := fun e => hpair (e ▸ hr)
    rw [writePair_sp_of_ne hsp, h]
  writeStackPair t r v hf _ := absurd hf (hpop r)
  incFlags _ _ _ _ h := h
  decFlags _ _ _ _ h := h
  decSp t r hf _ := absurd hf (hpush r)
  incSp t r hf _ := absurd hf (hpop r)
  memWrite t a v u _ h hu := (memWrite_sp hu).trans h

/-- Settles O25: the operations of every other form keep SP. -/
theorem stackPointerIsWrittenOnlyByItsInstructions : Obligations.StackPointerIsWrittenOnlyByItsInstructions := by
  intro i s t h hsp
  by_contra hother
  rw [← writesPair_sp_iff, not_or, not_or, not_exists, not_exists] at hother
  obtain ⟨hpush, hpop, hpair⟩ := hother
  exact hsp ((keptBy_sp hpush hpop hpair).exec rfl t h)

/-! ### F and the carry flag -/

theorem readF_writeStackPair_of_ne {r : StackPair} (hr : r ≠ .af) (s : State) (v : Word) :
    (s.writeStackPair r v).readF = s.readF := by
  cases r with
  | af => exact absurd rfl hr
  | bc => rfl
  | de => rfl
  | hl => rfl

theorem keptBy_readF {f : Form} {s : State} (hinc : ∀ r, f ≠ .incReg r) (hdec : ∀ r, f ≠ .decReg r)
    (hpop : f ≠ .pop .af) : KeptBy (fun t => t.readF = s.readF) f s where
  advancePc _ h := h
  addCycles _ _ h := h
  takeFault _ _ h := h
  writeReg8 t r v h := by simpa using h
  writePair t r v _ h := by simpa using h
  writeStackPair t r v hf h := by
    have hr : r ≠ .af := fun e => hpop (e ▸ hf)
    rw [readF_writeStackPair_of_ne hr, h]
  incFlags t r v hf _ := absurd hf (hinc r)
  decFlags t r v hf _ := absurd hf (hdec r)
  decSp _ _ _ h := h
  incSp _ _ _ h := h
  memWrite t a v u _ h hu := (memWrite_readF hu).trans h

/-- `INC r` and `DEC r` write F but put the carry flag back (43_incdec R130, R131). -/
theorem keptBy_carry {f : Form} {s : State} (hpop : f ≠ .pop .af) :
    KeptBy (fun t => t.flag .c = s.flag .c) f s where
  advancePc _ h := h
  addCycles _ _ h := h
  takeFault _ _ h := h
  writeReg8 t r v h := (State.flag_congr (State.readF_writeReg8 t r v) .c).trans h
  writePair t r v _ h := (State.flag_congr (State.readF_writePair t r v) .c).trans h
  writeStackPair t r v hf h := by
    have hr : r ≠ .af := fun e => hpop (e ▸ hf)
    exact (State.flag_congr (readF_writeStackPair_of_ne hr t v) .c).trans h
  incFlags t r v _ h := by simpa [mem_incFlags] using h
  decFlags t r v _ h := by simpa [mem_decFlags] using h
  decSp _ _ _ h := h
  incSp _ _ _ h := h
  memWrite t a v u _ h hu := (State.flag_congr (memWrite_readF hu) .c).trans h

/-- Settles O26: the operations of every other form keep F, and those of every form but `POP AF` the carry flag. -/
theorem flagsAreWrittenOnlyByIncDecAndPopAf : Obligations.FlagsAreWrittenOnlyByIncDecAndPopAf := by
  intro i s t h
  constructor
  · intro hF
    by_contra hother
    rw [not_or, not_or, not_exists, not_exists] at hother
    obtain ⟨hinc, hdec, hpop⟩ := hother
    exact hF ((keptBy_readF hinc hdec hpop).exec rfl t h)
  · intro hC
    by_contra hpop
    exact hC ((keptBy_carry hpop).exec rfl t h)

/-! ### The overlay flag -/

/-- Without a store at 0xFF50 the overlay flag is kept (20_memory R53). -/
theorem keptBy_overlay {f : Form} {s : State} (hstore : ¬ StoresAt s 0xFF50 f) :
    KeptBy (fun t => t.overlayEnabled = s.overlayEnabled) f s where
  advancePc _ h := h
  addCycles _ _ h := h
  takeFault _ _ h := h
  writeReg8 t r v h := by simpa using h
  writePair t r v _ h := by simpa using h
  writeStackPair t r v _ h := by simpa using h
  incFlags _ _ _ _ h := h
  decFlags _ _ _ _ h := h
  decSp _ _ _ h := h
  incSp _ _ _ h := h
  memWrite t a v u ha h hu := by
    have hne : a ≠ 0xFF50 := fun e => hstore (e ▸ ha)
    rw [memWrite_overlay_of_ne hu hne, h]

/-- A Step that changes the overlay flag runs an instruction that stores at 0xFF50. -/
theorem storesAt_of_step_overlay {s t : State} (h : step s = .next t) (ho : t.overlayEnabled ≠ s.overlayEnabled) :
    ∃ i : Instr, readBytes s s.pc i.length = some (encode i) ∧ StoresAt s.advancePc 0xFF50 i.form := by
  rcases step_cases h with ⟨i, hbytes, hexec⟩ | ⟨-, rfl⟩ | ⟨_, _, -, -, -, -, rfl⟩ | ⟨_, dst, lo, -, -, -, -, rfl⟩
  · refine ⟨i, hbytes, by_contra fun hstore => ho ?_⟩
    exact (keptBy_overlay hstore).exec rfl t hexec
  · exact absurd rfl ho
  · exact absurd rfl ho
  · exact absurd (by simp) ho

/-- A disabled overlay stays disabled (R29). -/
theorem kept_overlayDisabled : Kept (fun t => t.overlayEnabled = false) where
  writeReg8 t r v h := by simpa using h
  writePair t r v h := by simpa using h
  writeStackPair t r v h := by simpa using h
  resetFlags _ _ h := h
  advancePc _ h := h
  decSp _ h := h
  incSp _ h := h
  addCycles _ _ h := h
  takeFault _ _ h := h
  memWrite t a v u h hu := by rw [memWrite_overlay hu, h, Bool.false_and]

/-- Settles O23: of the operations only a store writes the flag, at 0xFF50, and it clears it. -/
theorem overlayFlagIsClearedByAStoreTo0xFF50AndNeverSet :
    Obligations.OverlayFlagIsClearedByAStoreTo0xFF50AndNeverSet := by
  refine ⟨fun _ _ => rfl, fun s t hon h hoff => ?_, fun s v => ⟨_, rfl, rfl⟩, fun k s t hoff h => ?_⟩
  · obtain ⟨i, hbytes, hstore⟩ := storesAt_of_step_overlay h (by rw [hon, hoff]; decide)
    refine ⟨i, hbytes, ?_⟩
    cases hf : i.form <;> rw [hf] at hstore
    case push => exact hstore.imp Eq.symm Eq.symm
    case ldAtHLReg | ldAtHLImm | ldAtHLIncA | ldAtHLDecA => exact Eq.symm hstore
    all_goals exact hstore
  · exact run_induct (fun _ _ hu hstep => kept_overlayDisabled.step hu hstep) k hoff h

end Sys2Proof.Machine
end

section
/-! The cycle counter (spec/10_state R26, 70_reset_and_hazards R180): what an instruction adds to it, and that no operation
reads it. -/

namespace Sys2Proof.Machine

/-! ### What an instruction adds -/

/-- No operation lowers the count (R26). -/
theorem kept_cycles_ge (n : Nat) : Kept (fun t => n ≤ t.cycles) where
  writeReg8 t r v h := by simpa using h
  writePair t r v h := by simpa using h
  writeStackPair t r v h := by simpa using h
  resetFlags _ _ h := h
  advancePc _ h := h
  decSp _ h := h
  incSp _ h := h
  addCycles _ _ h := Nat.le_add_right_of_le h
  takeFault _ _ h := h
  memWrite t a v u h hu := h.trans_eq (memWrite_cycles hu).symm

/-- `t` has completed with the cost of the form added to the count of `s`, or has faulted. -/
def Charges (f : Form) (s t : State) : Prop :=
  t.status = .running → ∃ n, f.cost s.params = some n ∧ t.cycles = s.cycles + n

/-- An instruction that completes adds the cost the table gives it (70_reset_and_hazards R180). -/
theorem exec_charges (i : Instr) (s : State) : Sat (Charges i.form s) (exec i s) := by
  rw [exec_eq_runForm]
  generalize i.form = f
  have C : ∀ {t n}, f.cost s.params = some n → t.cycles = s.cycles → Sat (Charges f s) (returnCost n t) :=
    fun hn ht => sat_returnCost.2 fun _ => ⟨_, hn, congrArg (· + _) ht⟩
  have F : ∀ {t c}, Sat (Charges f s) (raise c t) := fun {_ _} => sat_raise.2 fun h => by cases h
  have R : ∀ {t a k}, (∀ v, Sat (Charges f s) (k v)) → Sat (Charges f s) (withRead t a k) := fun hk =>
    sat_withRead.2 ⟨fun v _ => hk v, fun _ => sat_raise.1 F⟩
  have W : ∀ {t a v k}, (∀ u, memWrite t a v = some u → Sat (Charges f s) (k u)) →
      Sat (Charges f s) (withWrite t a v k) := fun hk => sat_withWrite.2 ⟨hk, fun _ => sat_raise.1 F⟩
  cases f with
  | nop => exact C rfl rfl
  | stop => exact F
  | undecoded => exact F
  | ldRegReg => exact C rfl (by simp)
  | ldRegAtHL => exact R fun v => C rfl (by simp)
  | ldAtHLReg => exact W fun u hu => C rfl (memWrite_cycles hu)
  | ldRegImm => exact C rfl (by simp)
  | ldAtHLImm => exact W fun u hu => C rfl (by simp [memWrite_cycles hu])
  | ldAtHLIncA => exact W fun u hu => C rfl (by simp [memWrite_cycles hu])
  | ldAtHLDecA => exact W fun u hu => C rfl (by simp [memWrite_cycles hu])
  | ldAAtHLInc => exact R fun v => C rfl (by simp)
  | ldAAtHLDec => exact R fun v => C rfl (by simp)
  | ldPairImm => exact C rfl (by simp)
  | push r =>
    refine W fun u hu => W fun w hw => C ?_ ?_
    · rw [memWrite_params hw, State.decSp_params, memWrite_params hu]
      rfl
    · rw [memWrite_cycles hw, State.decSp_cycles, memWrite_cycles hu]
      rfl
  | pop r => exact R fun lo => R fun hi => C rfl (by simp)
  | incReg => exact C rfl (by simp)
  | decReg => exact C rfl (by simp)
  | incPair => exact C rfl (by simp)
  | decPair => exact C rfl (by simp)

/-- Every cost of the table is at least one cycle (R26). -/
theorem cost_pos {p : Params} (hp : p.wf = true) {f : Form} {n : Nat} (h : f.cost p = some n) : 1 ≤ n := by
  obtain ⟨-, -, -, hpush, hpop⟩ := (params_wf_iff p).1 hp
  cases f <;> simp only [Form.cost, Option.some.injEq, reduceCtorEq] at h <;> omega

/-- A completed Step has run an instruction to its end. -/
theorem exec_of_completes {s t : State} (h : Completes s t) :
    ∃ i : Instr, readBytes s s.pc i.length = some (encode i) ∧ exec i s.advancePc = .next t := by
  obtain ⟨hstep, hrun⟩ := h
  rcases step_cases hstep with h | ⟨-, rfl⟩ | ⟨_, _, -, -, -, -, rfl⟩ | ⟨_, _, _, -, -, -, -, rfl⟩
  · exact h
  all_goals cases hrun

/-- Settles O21: no operation lowers the count, and what an instruction costs is at least one cycle. -/
theorem cyclesNeverDecrease : Obligations.CyclesNeverDecrease := by
  refine ⟨fun k s t h => ?_, fun s t hp h => ?_⟩
  · exact run_induct (fun _ _ hu hstep => (kept_cycles_ge s.cycles).step hu hstep) k le_rfl h
  · obtain ⟨i, -, hexec⟩ := exec_of_completes h
    obtain ⟨n, hcost, hcycles⟩ := exec_charges i s.advancePc t hexec h.2
    have hn := cost_pos hp hcost
    rw [State.advancePc_cycles] at hcycles
    omega

/-! ### No operation reads the counter -/

section
variable (s : State) (n : Nat)

@[simp] theorem State.writeReg8_addCycles (r : Reg8) (v : Byte) :
    (s.addCycles n).writeReg8 r v = (s.writeReg8 r v).addCycles n := by cases r <;> rfl
@[simp] theorem State.writePair_addCycles (r : Pair) (v : Word) :
    (s.addCycles n).writePair r v = (s.writePair r v).addCycles n := by cases r <;> rfl
@[simp] theorem State.writeStackPair_addCycles (r : StackPair) (v : Word) :
    (s.addCycles n).writeStackPair r v = (s.writeStackPair r v).addCycles n := by cases r <;> rfl
@[simp] theorem State.resetFlags_addCycles (fs : List Flag) :
    (s.addCycles n).resetFlags fs = (s.resetFlags fs).addCycles n := rfl
@[simp] theorem State.advancePc_addCycles : (s.addCycles n).advancePc = s.advancePc.addCycles n := rfl
@[simp] theorem State.decSp_addCycles : (s.addCycles n).decSp = s.decSp.addCycles n := rfl
@[simp] theorem State.incSp_addCycles : (s.addCycles n).incSp = s.incSp.addCycles n := rfl
@[simp] theorem State.takeFault_addCycles (c : Cause) :
    takeFault c (s.addCycles n) = (takeFault c s).addCycles n := rfl
@[simp] theorem State.loadLowHalf_addCycles (r : Pair) (b : Byte) :
    (s.addCycles n).loadLowHalf r b = (s.loadLowHalf r b).addCycles n := by cases r <;> rfl
@[simp] theorem State.loadHighHalf_addCycles (r : Pair) (b : Byte) :
    (s.addCycles n).loadHighHalf r b = (s.loadHighHalf r b).addCycles n := by cases r <;> rfl

theorem State.addCycles_addCycles_comm (m : Nat) :
    (s.addCycles n).addCycles m = (s.addCycles m).addCycles n := by
  simp only [State.addCycles, Nat.add_right_comm]

theorem memWrite_addCycles (a : Word) (v : Byte) :
    memWrite (s.addCycles n) a v = (memWrite s a v).map (·.addCycles n) := by
  unfold memWrite
  split <;> rfl

end

/-- The outcome with `n` more on the counter of a next state. -/
def Out.addCycles (n : Nat) : Out → Out
  | .next t => .next (t.addCycles n)
  | .fault r => .fault r
  | .refused r => .refused r

/-- The fetch with `n` more on the counter. -/
def Fetched.addCycles (n : Nat) : Fetched → Fetched
  | .handler i t => .handler i (t.addCycles n)
  | .raised t => .raised (t.addCycles n)

theorem returnCost_addCycles {s t : State} {n : Nat} (m : Nat) (h : t = s.addCycles n) :
    returnCost m t = Out.addCycles n (returnCost m s) := by
  rw [h, returnCost, State.addCycles_addCycles_comm]
  rfl

theorem withRead_addCycles {k k' : Byte → Out} {n : Nat} (s : State) (a : Word)
    (hk : ∀ v, k' v = Out.addCycles n (k v)) :
    withRead (s.addCycles n) a k' = Out.addCycles n (withRead s a k) := by
  simp only [withRead, memRead_addCycles]
  split
  · exact hk _
  · rfl

theorem withWrite_addCycles {k k' : State → Out} {n : Nat} (s : State) (a : Word) (v : Byte)
    (hk : ∀ t, k' (t.addCycles n) = Out.addCycles n (k t)) :
    withWrite (s.addCycles n) a v k' = Out.addCycles n (withWrite s a v k) := by
  simp only [withWrite, memWrite_addCycles]
  cases memWrite s a v with
  | some t => exact hk t
  | none => rfl

/-- An instruction does the same from any count. -/
theorem exec_addCycles (i : Instr) (s : State) (n : Nat) :
    exec i (s.addCycles n) = Out.addCycles n (exec i s) := by
  rw [exec_eq_runForm, exec_eq_runForm]
  cases i.form with
  | nop => exact returnCost_addCycles 1 rfl
  | stop => rfl
  | undecoded => rfl
  | ldRegReg => exact returnCost_addCycles 1 (by simp)
  | ldRegAtHL => exact withRead_addCycles s _ fun v => returnCost_addCycles 2 (by simp)
  | ldAtHLReg r =>
    rw [runForm, ldAtHLReg, State.readReg8_addCycles]
    exact withWrite_addCycles s _ _ fun t => returnCost_addCycles 2 rfl
  | ldRegImm => exact returnCost_addCycles 2 (by simp)
  | ldAtHLImm => exact withWrite_addCycles s.advancePc _ _ fun t => returnCost_addCycles 3 rfl
  | ldAtHLIncA => exact withWrite_addCycles s _ _ fun t => returnCost_addCycles 2 (by simp)
  | ldAtHLDecA => exact withWrite_addCycles s _ _ fun t => returnCost_addCycles 2 (by simp)
  | ldAAtHLInc => exact withRead_addCycles s _ fun v => returnCost_addCycles 2 (by simp)
  | ldAAtHLDec => exact withRead_addCycles s _ fun v => returnCost_addCycles 2 (by simp)
  | ldPairImm => exact returnCost_addCycles 3 (by simp)
  | push r =>
    have hread : ∀ t : State, (t.addCycles n).decSp.readStackPair r = t.decSp.readStackPair r := fun t => by
      simp
    simp only [runForm, push, hread]
    exact withWrite_addCycles s.decSp _ _ fun t => by
      rw [hread]
      exact withWrite_addCycles t.decSp _ _ fun u => returnCost_addCycles _ rfl
  | pop => exact withRead_addCycles s _ fun lo => withRead_addCycles s.incSp _ fun hi => returnCost_addCycles _ (by simp)
  | incReg => exact returnCost_addCycles 1 (by simp)
  | decReg => exact returnCost_addCycles 1 (by simp)
  | incPair => exact returnCost_addCycles 2 (by simp)
  | decPair => exact returnCost_addCycles 2 (by simp)

theorem fetchD8_addCycles (dst : ImmDst) (s : State) (n : Nat) :
    fetchD8 dst (s.addCycles n) = (fetchD8 dst s).addCycles n := by
  simp only [fetchD8, memRead_addCycles, State.addCycles_pc]
  split <;> rfl

theorem fetchD16_addCycles (dst : Pair) (s : State) (n : Nat) :
    fetchD16 dst (s.addCycles n) = (fetchD16 dst s).addCycles n := by
  simp only [fetchD16, State.loadLowHalf_addCycles, memRead_addCycles, State.addCycles_pc]
  split
  · rfl
  · split <;> rfl

/-- A fetch does the same from any count. -/
theorem fetchInstr_addCycles (s : State) (n : Nat) :
    fetchInstr (s.addCycles n) = (fetchInstr s).addCycles n := by
  simp only [fetchInstr, memRead_addCycles, State.addCycles_pc, State.advancePc_addCycles, fetchD8_addCycles,
    fetchD16_addCycles]
  split
  · rfl
  · split <;> rfl

/-- A Step does the same from any count. -/
theorem step_addCycles {s : State} (h : s.enabled) (n : Nat) :
    step (s.addCycles n) = Out.addCycles n (step s) := by
  have h' : (s.addCycles n).enabled := h
  rw [step_enabled h, step_enabled h', fetchInstr_addCycles]
  cases fetchInstr s with
  | handler i t => exact exec_addCycles i t n
  | raised t => rfl

/-- Settles O22: fetches and instructions commute with a change of the count. -/
theorem nothingReadsTheCycleCounter : Obligations.NothingReadsTheCycleCounter := by
  intro s t n h
  show step (s.addCycles n) = .next (t.addCycles n)
  rw [step_addCycles (enabled_of_step h), h]
  rfl

end Sys2Proof.Machine
end

section
/-! The pair accessors, the byte registers and the flag operations (spec/10_state R11 to R22). -/

namespace Sys2Proof

/-! ### The accessors as shifts and masks -/

theorem getLow_eq_setWidth (v : Word) : getLow v = v.setWidth 8 := by
  apply BitVec.eq_of_getLsbD_eq
  intro i hi
  simp [getLow]

theorem getHigh_eq_shift (v : Word) : getHigh v = (v >>> 8).setWidth 8 := by
  apply BitVec.eq_of_getLsbD_eq
  intro i hi
  simp [getHigh]

theorem joinBytes_eq_shift_or (h l : Byte) : joinBytes h l = (h.setWidth 16 <<< 8) ||| l.setWidth 16 := by
  apply BitVec.eq_of_getLsbD_eq
  intro i hi
  rw [getLsbD_joinBytes]
  by_cases h8 : i < 8
  · simp [h8, hi]
  · simp [h8, hi, BitVec.getLsbD_of_ge l i (by omega)]

/-- The bits of the mask of the low byte. -/
theorem getLsbD_lowMask : ∀ i < 16, (0x00FF : Word).getLsbD i = decide (i < 8) := by decide

/-- The bits of the mask of the high byte. -/
theorem getLsbD_highMask : ∀ i < 16, (0xFF00 : Word).getLsbD i = !decide (i < 8) := by decide

/-- The low byte in place is the value under the low mask. -/
theorem setWidth_getLow (v : Word) : (getLow v).setWidth 16 = v &&& 0x00FF := by
  apply BitVec.eq_of_getLsbD_eq
  intro i hi
  rw [getLow_eq_setWidth, BitVec.getLsbD_and, getLsbD_lowMask i hi]
  by_cases h8 : i < 8 <;> simp [h8, hi]

/-- The high byte in place is the value under the high mask. -/
theorem shift_getHigh (v : Word) : (getHigh v).setWidth 16 <<< 8 = v &&& 0xFF00 := by
  apply BitVec.eq_of_getLsbD_eq
  intro i hi
  rw [getHigh_eq_shift, BitVec.getLsbD_and, getLsbD_highMask i hi]
  by_cases h8 : i < 8
  · simp [h8]
  · have hlt : i - 8 < 8 := by omega
    have hadd : 8 + (i - 8) = i := by omega
    simp [h8, hi, hlt, hadd]

/-- Settles O35: the accessors join bytes, and a join is a shift and an or. -/
theorem pairAccessorsComposeAndAreIndependent : Obligations.PairAccessorsComposeAndAreIndependent := by
  intro v b c
  refine ⟨getHigh_eq_shift v, getLow_eq_setWidth v, ?_, ?_, getLow_setHigh v b, getHigh_setHigh v b,
    getHigh_setLow v b, getLow_setLow v b, ?_, ?_⟩
  · rw [setHigh, joinBytes_eq_shift_or, setWidth_getLow]
  · rw [setLow, joinBytes_eq_shift_or, shift_getHigh]
  · rw [setHigh_setLow, joinBytes_eq_shift_or]
  · rw [setLow_setHigh, joinBytes_eq_shift_or]

end Sys2Proof

namespace Sys2Proof.Machine

/-! ### The byte registers -/

/-- A write of a byte register changes the four general pairs alone (R13). -/
theorem writeReg8_frame (s : State) (r : Reg8) (v : Byte) :
    ∃ af bc de hl, s.writeReg8 r v = { s with af := af, bc := bc, de := de, hl := hl } := by
  cases r <;> exact ⟨_, _, _, _, rfl⟩

/-- Settles O36: a write is read back and kept apart, and each pair joins its two byte registers. -/
theorem byteRegistersAliasTheirPairs : Obligations.ByteRegistersAliasTheirPairs := by
  intro s r v
  have join : ∀ w : Word, w = getHigh w ++ getLow w := fun w => (joinBytes_getHigh_getLow w).symm
  exact ⟨fun q => State.readReg8_writeReg8 s r q v, State.readF_writeReg8 s r v, writeReg8_frame s r v, join s.bc, join s.de,
    join s.hl, join s.af⟩

/-! ### The flags -/

/-- The place of a flag in F (R17). -/
def Flag.bit : Flag → Nat
  | .z => 7
  | .n => 6
  | .h => 5
  | .c => 4

theorem mask_eq_twoPow (f : Flag) : f.mask = BitVec.twoPow 8 f.bit := by cases f <;> rfl

/-- A mask has its own bit and no other flag's. -/
theorem getLsbD_mask (f g : Flag) : f.mask.getLsbD g.bit = decide (g = f) := by cases f <;> cases g <;> rfl

theorem bit_lt (f : Flag) : f.bit < 8 := by cases f <;> decide

/-- A mask has a zero low nibble, where F has one (R23). -/
theorem mask_and_low (f : Flag) : f.mask &&& 0x0F = 0 := by cases f <;> rfl

/-- A flag is its bit of F (R18). -/
theorem flag_eq_bit (s : State) (g : Flag) : s.flag g = s.readF.getLsbD g.bit := by
  rw [State.flag, mask_eq_twoPow, BitVec.and_twoPow]
  cases s.readF.getLsbD g.bit
  · rfl
  · cases g <;> rfl

/-- The flags written with F are its bits: none is in the low nibble that R23 clears. -/
theorem flag_writeF (s : State) (v : Byte) (g : Flag) : (s.writeF v).flag g = v.getLsbD g.bit := by
  rw [flag_eq_bit, State.readF_writeF, BitVec.getLsbD_and]
  cases g <;> simp [Flag.bit]

/-- A byte with a zero low nibble is read back from F whole (R23). -/
theorem readF_writeF_of_low {v : Byte} (h : v &&& 0x0F = 0) (s : State) : (s.writeF v).readF = v := by
  rw [State.readF_writeF, masked_of_low v h]

theorem setFlag_flag (s : State) (f g : Flag) : (s.setFlag f).flag g = (decide (g = f) || s.flag g) := by
  rw [State.setFlag, flag_writeF, BitVec.getLsbD_or, getLsbD_mask, flag_eq_bit, Bool.or_comm]

theorem clearFlag_flag (s : State) (f g : Flag) : (s.clearFlag f).flag g = (!decide (g = f) && s.flag g) := by
  rw [State.clearFlag, flag_writeF, BitVec.getLsbD_and, BitVec.getLsbD_not, getLsbD_mask, flag_eq_bit,
    decide_eq_true (bit_lt g), Bool.true_and, Bool.and_comm]

theorem toggleFlag_flag (s : State) (f g : Flag) :
    (s.toggleFlag f).flag g = if g = f then !s.flag g else s.flag g := by
  rw [State.toggleFlag, flag_writeF, BitVec.getLsbD_xor, getLsbD_mask, flag_eq_bit]
  by_cases h : g = f <;> simp [h]

/-! Setting, clearing and toggling a flag leave a zero low nibble zero (R19 to R21, R23). -/

theorem or_mask_low {v : Byte} (h : v &&& 0x0F = 0) (f : Flag) : (v ||| f.mask) &&& 0x0F = 0 := by
  rw [BitVec.and_or_distrib_right, h, mask_and_low, BitVec.or_self]

theorem and_not_mask_low {v : Byte} (h : v &&& 0x0F = 0) (f : Flag) : (v &&& ~~~f.mask) &&& 0x0F = 0 := by
  rw [BitVec.and_assoc, BitVec.and_comm (~~~f.mask), ← BitVec.and_assoc, h]
  exact BitVec.zero_and

theorem xor_mask_low {v : Byte} (h : v &&& 0x0F = 0) (f : Flag) : (v ^^^ f.mask) &&& 0x0F = 0 := by
  have distrib : (v ^^^ f.mask) &&& 0x0F = (v &&& 0x0F) ^^^ (f.mask &&& 0x0F) := by
    ext i
    simp [Bool.and_xor_distrib_right]
  rw [distrib, h, mask_and_low]
  exact BitVec.xor_self

theorem flagByte_eq_foldr (fs : List Flag) : flagByte fs = fs.foldr (fun f b => f.mask ||| b) 0 := by
  induction fs with
  | nil => rfl
  | cons f fs ih => rw [flagByte, List.foldr_cons, ih]

/-- Every flag operation is a write of F, which keeps A and the rest of the state and clears the low nibble (R23). -/
theorem writeF_frame (s : State) (v : Byte) :
    (s.writeF v).readF &&& 0x0F = 0 ∧ (∀ q, (s.writeF v).readReg8 q = s.readReg8 q) ∧
      s.writeF v = { s with af := (s.writeF v).af } :=
  ⟨by rw [State.readF_writeF, masked_and_low], fun q => State.readReg8_writeF s q v, rfl⟩

/-- Settles O37: the operations are writes of F, read bit by bit. -/
theorem flagOperations : Obligations.FlagOperations := by
  refine ⟨rfl, rfl, rfl, rfl, fun s f g fs h => ?_⟩
  refine ⟨getLow_eq_setWidth s.af, decide_eq_true_iff, readF_writeF_of_low (or_mask_low h f) s,
    readF_writeF_of_low (and_not_mask_low h f) s, readF_writeF_of_low (xor_mask_low h f) s,
    (State.readF_resetFlags s fs).trans (flagByte_eq_foldr fs), setFlag_flag s f g, clearFlag_flag s f g,
    toggleFlag_flag s f g, State.flag_resetFlags s fs g, fun t ht => ?_⟩
  rcases ht with rfl | rfl | rfl | rfl
  all_goals exact writeF_frame s _

end Sys2Proof.Machine
end

section
/-! The memory (spec/20_memory): the decode tables of a read and of a write, what they say of ROM, the overlay, the window
and RAM, and which instructions write memory. -/

namespace Sys2Proof.Machine

/-! ### The decode tables -/

/-- Settles O28, row by row of the decode table: the range of a row decides each test of the chain. -/
theorem memReadFollowsTheDecodeTable : Obligations.MemReadFollowsTheDecodeTable := by
  refine fun s a => ⟨?_, fun k h => withRead_none h⟩
  have range := regionOf_spec a
  cases hr : regionOf a <;> rw [hr] at range
  case overlaid =>
    have hbank0 : a.toNat ≤ 0x3FFF := by omega
    cases ho : s.overlayEnabled <;> simp [memRead, hr, ho, range, hbank0]
  case romWindow =>
    simp (disch := omega) only [memRead, hr, if_pos, if_neg]
    unfold windowIndex
    rfl
  all_goals simp (disch := omega) only [memRead, hr, if_pos, if_neg]

/-- Settles O29, row by row of the decode table, with the one row of a single address read as a range. -/
theorem memWriteFollowsTheDecodeTable : Obligations.MemWriteFollowsTheDecodeTable := by
  refine fun s a v => ⟨?_, fun k h => withWrite_none h⟩
  have range := regionOf_spec a
  have hff50 : a = 0xFF50 ↔ a.toNat = 0xFF50 := BitVec.toNat_eq
  cases hr : regionOf a <;> rw [hr] at range <;>
    simp (disch := omega) only [memWrite, hr, hff50, if_pos, if_neg]

/-! ### ROM and the overlay -/

/-- ROM bank 0 shows where the overlay does not cover it (R46, R47). -/
theorem memRead_bank0 {s : State} {a : Word} (ha : a.toNat ≤ 0x3FFF)
    (hoff : s.overlayEnabled = false ∨ 0x0100 ≤ a.toNat) : memRead s a = some (s.rom.read a.toNat) := by
  have hcovered : ¬ (a.toNat ≤ 0x00FF ∧ s.overlayEnabled = true) := by
    rintro ⟨hlow, hon⟩
    rcases hoff with hoff | hhigh
    · exact absurd (hon.symm.trans hoff) (by decide)
    · omega
  rw [(memReadFollowsTheDecodeTable s a).1, if_neg hcovered, if_pos ha]

/-- Any write of 0xFF50 disables the overlay (R53). -/
theorem memWrite_disables_overlay {s t : State} {v : Byte} (h : memWrite s 0xFF50 v = some t) :
    t.overlayEnabled = false := by
  have hr : regionOf 0xFF50 = .overlayDisable := rfl
  rw [memWrite_overlay h, hr, decide_eq_false (not_not_intro rfl), Bool.and_false]

/-- Settles O31: the first two lines of the read table, before and after the write that disables the overlay. -/
theorem overlayAndRomReads : Obligations.OverlayAndRomReads := by
  refine fun s a => ⟨fun ha ho => ?_, fun ha ho => memRead_bank0 (by omega) (.inl ho),
    fun hlo hhi => memRead_bank0 hhi (.inr hlo), fun v t ht ha => ?_⟩
  · rw [(memReadFollowsTheDecodeTable s a).1, if_pos ⟨ha, ho⟩]
  · rw [memRead_bank0 (by omega) (.inl (memWrite_disables_overlay ht)), memWrite_rom ht]

/-! ### The window -/

theorem windowIndex_of_wf {s : State} (hp : s.params.wf = true) (a : Word) :
    windowIndex s.params a = a.toNat - 0x4000 := by
  unfold windowIndex
  rw [(windowBank_of_wf hp).1, Nat.zero_mul, Nat.zero_add]

/-- The window shows bank 0 (R48). -/
theorem memRead_window {s : State} (hp : s.params.wf = true) {a : Word} (hlo : 0x4000 ≤ a.toNat)
    (hhi : a.toNat ≤ 0x7FFF) : memRead s a = some (s.rom.read (a.toNat - 0x4000)) := by
  rw [(memReadFollowsTheDecodeTable s a).1, if_neg (by omega), if_neg (by omega), if_pos hhi, (windowBank_of_wf hp).1,
    Nat.zero_mul, Nat.zero_add]

/-- No read sees ROM from index 0x4000 on: each row that shows ROM has a lower index. -/
theorem memRead_congr_rom {s : State} (hp : s.params.wf = true) {m : Memory}
    (hm : ∀ k, k < 0x4000 → m.read k = s.rom.read k) (a : Word) : memRead { s with rom := m } a = memRead s a := by
  have range := regionOf_spec a
  cases hr : regionOf a <;> rw [hr] at range <;> simp only [memRead, hr]
  case overlaid => rw [hm _ (by omega)]
  case romBank0 => rw [hm _ (by omega)]
  case romWindow => rw [windowIndex_of_wf hp, hm _ (by omega)]

/-- Settles O32: a window address and the one 0x4000 lower show the same index of ROM. -/
theorem theWindowRepeatsBankZero : Obligations.TheWindowRepeatsBankZero := by
  refine fun s hp => ⟨fun a => memRead_window hp, fun a hlo hhi => ?_, fun m hm => memRead_congr_rom hp hm⟩
  have hsum : (a + 0x4000).toNat = a.toNat + 0x4000 := by
    rw [BitVec.toNat_add]
    show (a.toNat + 0x4000) % 0x10000 = _
    omega
  rw [memRead_window hp (by omega) (by omega), memRead_bank0 hhi (.inr hlo), hsum, Nat.add_sub_cancel]

/-! ### RAM -/

theorem undecodedForWrite_of_isRam {a : Word} (ha : isRam a = true) : undecodedForWrite a = false := by
  simp only [isRam, undecodedForWrite, Bool.or_eq_true, Bool.and_eq_true, decide_eq_true_eq, Bool.or_eq_false_iff,
    Bool.and_eq_false_iff, decide_eq_false_iff_not] at ha ⊢
  omega

theorem ne_overlayDisable_of_isRam {a : Word} (ha : isRam a = true) : a ≠ 0xFF50 := by
  rintro rfl
  exact absurd ha (by decide)

/-- Settles O30: a store in RAM succeeds, and is the store of one byte. -/
theorem ramReadsBackWhatWasWritten : Obligations.RamReadsBackWhatWasWritten := by
  intro s a v hi ha
  obtain ⟨t, ht⟩ := memWrite_some_of_decoded s v (undecodedForWrite_of_isRam ha)
  have stored := memWrite_storedAt hi.memories ht
  exact ⟨t, ht, stored.stored ha, stored.elsewhere (ne_overlayDisable_of_isRam ha)⟩

theorem memWrite_pc {s t : State} {a : Word} {v : Byte} (h : memWrite s a v = some t) : t.pc = s.pc := by
  rw [memWrite_frame h]

theorem memWrite_enabled {s t : State} {a : Word} {v : Byte} (h : memWrite s a v = some t) (hs : s.enabled) :
    t.enabled := by
  rw [memWrite_frame h]
  exact hs

/-- A byte that decodes alone has an entry without an immediate (30_encoding R73). -/
theorem opcodeEntry_of_decode_singleton {op : Byte} {i : Instr} (h : decode [op] = .instr i []) :
    opcodeEntry op = some (.op i) := by
  cases he : opcodeEntry op with
  | none => simp [decode, he] at h
  | some e =>
    cases e with
    | op j =>
      rw [decode_op he] at h
      cases h
      rfl
    | opD8 dst => simp [decode, he] at h
    | opD16 dst => simp [decode, he] at h

/-- A Step at an opcode without an immediate runs its instruction after the opcode fetch (40_step_dispatch R90). -/
theorem step_of_entry_op {s : State} {op : Byte} {i : Instr} (hs : s.enabled) (hop : memRead s s.pc = some op)
    (he : opcodeEntry op = some (.op i)) : step s = exec i s.advancePc := by
  have hfetch : fetchInstr s = .handler i s.advancePc := by simp only [fetchInstr, hop, he]
  rw [step_enabled hs, hfetch]

/-- Settles O34: the stored byte is the opcode that the fetch reads. -/
theorem storedByteIsTheNextOpcode : Obligations.StoredByteIsTheNextOpcode := by
  intro s t op i hi hs ha ht hd
  have hop : memRead t t.pc = some op := by rw [memWrite_pc ht, memRead_memWrite_same hi.memories ht ha]
  exact step_of_entry_op (memWrite_enabled ht hs) hop (opcodeEntry_of_decode_singleton hd)

/-! ### Which instructions write memory -/

/-- The fields that a read depends on are as they were: the MMU state (10_state R28) and the parameters. -/
def SameMmu (s t : State) : Prop :=
  t.overlayEnabled = s.overlayEnabled ∧ t.rom = s.rom ∧ t.boot = s.boot ∧ t.vram = s.vram ∧ t.eram = s.eram ∧
  t.wram = s.wram ∧ t.hram = s.hram ∧ t.params = s.params

theorem SameMmu.sameMemory {s t : State} (h : SameMmu s t) : SameMemory s t := by
  obtain ⟨ho, hr, hb, hv, he, hw, hh, hp⟩ := h
  exact sameMemory_of_fields ho hr hb hv he hw hh hp

/-- A form that stores nowhere is made of operations that keep the MMU state. -/
theorem keptBy_sameMmu {f : Form} {s : State} (hstore : ∀ a, ¬ StoresAt s a f) : KeptBy (SameMmu s) f s where
  advancePc _ h := h
  addCycles _ _ h := h
  takeFault _ _ h := h
  writeReg8 t r v h := by simpa [SameMmu] using h
  writePair t r v _ h := by simpa [SameMmu] using h
  writeStackPair t r v _ h := by simpa [SameMmu] using h
  incFlags _ _ _ _ h := h
  decFlags _ _ _ _ h := h
  decSp _ _ _ h := h
  incSp _ _ _ h := h
  memWrite _ a _ _ ha _ _ := absurd ha (hstore a)

/-- Settles O27: the forms it leaves out are those that store. -/
theorem onlyStoresAndPushWriteMemory : Obligations.OnlyStoresAndPushWriteMemory := by
  intro i s t h hform
  have hstore : ∀ a, ¬ StoresAt s a i.form := fun a ha => by
    cases hf : i.form <;> rw [hf] at hform ha
    case push | ldAtHLReg | ldAtHLImm | ldAtHLIncA | ldAtHLDecA => exact hform
    all_goals exact ha
  have hmmu : SameMmu s s := ⟨rfl, rfl, rfl, rfl, rfl, rfl, rfl, rfl⟩
  exact ((keptBy_sameMmu hstore).exec hmmu t h).sameMemory

end Sys2Proof.Machine
end

section
/-! The encoding (spec/30_encoding): which bytes the map gives each instruction, the decoder and the encoder both tied to
that relation, and from it the statements about bytes, lengths and the undecoded opcodes. -/

namespace Sys2Proof

/-! ### The bytes of an instruction, by the entry of its first byte -/

/-- The bytes are those of the instruction: the entry of the first (R78) and, by its format (R73), the immediate. -/
inductive ReadAs : List Byte → Instr → Prop where
  | op {op : Byte} {i : Instr} (h : opcodeEntry op = some (.op i)) : ReadAs [op] i
  | d8 {op : Byte} {dst : ImmDst} (h : opcodeEntry op = some (.opD8 dst)) (d8 : Byte) :
      ReadAs [op, d8] (instrD8 dst d8)
  | d16 {op : Byte} {dst : Pair} (h : opcodeEntry op = some (.opD16 dst)) (d16 : Word) :
      ReadAs [op, getLow d16, getHigh d16] (instrD16 dst d16)

/-- The decoder answers exactly the instruction that the leading bytes are read as. -/
theorem decode_eq_instr_iff {bytes rest : List Byte} {i : Instr} :
    decode bytes = .instr i rest ↔ ∃ bs, ReadAs bs i ∧ bytes = bs ++ rest := by
  constructor
  · intro h
    unfold decode at h
    split at h
    · cases h
    split at h
    case h_2 he => cases h; exact ⟨_, .op he, rfl⟩
    case h_3 he => cases h; exact ⟨_, .d8 he _, rfl⟩
    case h_4 lo hi _ he => cases h; exact ⟨_, .d16 he (joinBytes hi lo), by simp⟩
    all_goals cases h
  · rintro ⟨bs, hr, rfl⟩
    cases hr with
    | op he => exact decode_op he rest
    | d8 he d8 => exact decode_d8 he d8 rest
    | d16 he d16 => exact decode_d16 he d16 rest

/-- The map (R78) and the bit patterns (R77) agree: what bytes are read as is encoded by these bytes. -/
theorem ReadAs.encode_eq {bs : List Byte} {i : Instr} (h : ReadAs bs i) : encode i = bs := by
  cases h with
  | op he => exact Machine.encode_of_entry_op he
  | d8 he d8 => exact Machine.encode_of_entry_d8 he d8
  | d16 he d16 => simpa using Machine.encode_of_entry_d16 he (getHigh d16) (getLow d16)

/-- An 8-bit immediate load is found at its own opcode byte. -/
theorem opcodeEntry_instrD8 (dst : ImmDst) (d8 : Byte) :
    opcodeEntry (instrD8 dst d8).form.opcode = some (.opD8 dst) := by
  rw [opcode_instrD8]
  cases dst with
  | atHL => rfl
  | reg r => cases r <;> rfl

theorem opcodeEntry_instrD16 (dst : Pair) (d16 : Word) :
    opcodeEntry (instrD16 dst d16).form.opcode = some (.opD16 dst) := by
  rw [opcode_instrD16]
  cases dst <;> rfl

theorem readAs_encode_instrD8 (dst : ImmDst) (d8 : Byte) : ReadAs (encode (instrD8 dst d8)) (instrD8 dst d8) := by
  rw [encode, immediateBytes_instrD8]
  exact .d8 (opcodeEntry_instrD8 dst d8) d8

theorem readAs_encode_instrD16 (dst : Pair) (d16 : Word) :
    ReadAs (encode (instrD16 dst d16)) (instrD16 dst d16) := by
  rw [encode, immediateBytes_instrD16]
  exact .d16 (opcodeEntry_instrD16 dst d16) d16

/-- No instruction is missing from the map: the first byte of each selects its own entry. -/
theorem readAs_encode (i : Instr) : ReadAs (encode i) i := by
  cases i
  case ldB_d8 d8 => exact readAs_encode_instrD8 (.reg .b) d8
  case ldC_d8 d8 => exact readAs_encode_instrD8 (.reg .c) d8
  case ldD_d8 d8 => exact readAs_encode_instrD8 (.reg .d) d8
  case ldE_d8 d8 => exact readAs_encode_instrD8 (.reg .e) d8
  case ldH_d8 d8 => exact readAs_encode_instrD8 (.reg .h) d8
  case ldL_d8 d8 => exact readAs_encode_instrD8 (.reg .l) d8
  case ldA_d8 d8 => exact readAs_encode_instrD8 (.reg .a) d8
  case ldAtHL_d8 d8 => exact readAs_encode_instrD8 .atHL d8
  case ldBC_d16 d16 => exact readAs_encode_instrD16 .bc d16
  case ldDE_d16 d16 => exact readAs_encode_instrD16 .de d16
  case ldHL_d16 d16 => exact readAs_encode_instrD16 .hl d16
  case ldSP_d16 d16 => exact readAs_encode_instrD16 .sp d16
  all_goals exact .op rfl

/-- As many immediate bytes as the entry asks for complete an instruction (R72). -/
theorem exists_readAs {op : Byte} {e : Entry} (he : opcodeEntry op = some e) {imm : List Byte}
    (hlen : imm.length = e.immediates) : ∃ i, ReadAs (op :: imm) i := by
  cases e with
  | op i =>
    obtain rfl := List.length_eq_zero_iff.1 hlen
    exact ⟨_, .op he⟩
  | opD8 dst =>
    obtain ⟨d8, rfl⟩ := List.length_eq_one_iff.1 hlen
    exact ⟨_, .d8 he d8⟩
  | opD16 dst =>
    obtain ⟨lo, hi, rfl⟩ := List.length_eq_two.1 hlen
    exact ⟨_, by simpa using ReadAs.d16 he (joinBytes hi lo)⟩

/-- Fewer immediate bytes than the entry asks for are rejected (R72). -/
theorem decode_of_missing {op : Byte} {e : Entry} (he : opcodeEntry op = some e) {bytes : List Byte}
    (hlen : bytes.length < e.immediates) : decode (op :: bytes) = .reject (.missingImmediate op) := by
  cases e with
  | op i => exact absurd hlen (Nat.not_lt_zero _)
  | opD8 dst =>
    obtain rfl := List.length_eq_zero_iff.1 (Nat.lt_one_iff.1 hlen)
    simp [decode, he]
  | opD16 dst =>
    match bytes, hlen with
    | [], _ | [_], _ => simp [decode, he]

theorem Entry.immediates_le_two (e : Entry) : e.immediates ≤ 2 := by
  cases e <;> simp [Entry.immediates]

/-- The length is a function of the opcode byte (R72). -/
theorem ReadAs.length_eq {op : Byte} {imm : List Byte} {i : Instr} (h : ReadAs (op :: imm) i) :
    (opcodeEntry op).map (fun e => e.immediates + 1) = some i.length := by
  rw [Instr.length, h.encode_eq]
  cases h with
  | op he | d8 he _ | d16 he _ => rw [he]; rfl

/-! ### The statements about bytes and lengths -/

/-- Settles O1: the decoder answers what its bytes are read as, and each instruction's encoding is read as it. -/
theorem decodingAnEncodingGivesTheInstruction : Obligations.DecodingAnEncodingGivesTheInstruction := fun i _ =>
  decode_eq_instr_iff.2 ⟨_, readAs_encode i, rfl⟩

/-- Settles O2: bytes read as an instruction are its encoding. -/
theorem encodingADecodingGivesTheBytes : Obligations.EncodingADecodingGivesTheBytes := by
  intro bytes i rest h
  obtain ⟨bs, hr, hbytes⟩ := decode_eq_instr_iff.1 h
  rw [hbytes, hr.encode_eq]

/-- Settles O3: the entry of the opcode byte gives the number of immediate bytes. -/
theorem decodingFailsOnlyForMissingBytes : Obligations.DecodingFailsOnlyForMissingBytes := by
  refine ⟨rfl, fun op => ?_⟩
  obtain ⟨e, he⟩ := Option.isSome_iff_exists.1 (opcodeEntry_total op)
  refine ⟨e.immediates, e.immediates_le_two, fun bytes => ⟨fun hlen => ?_, decode_of_missing he⟩⟩
  have himm : (bytes.take e.immediates).length = e.immediates := List.length_take_of_le hlen
  obtain ⟨i, hr⟩ := exists_readAs he himm
  refine ⟨i, bytes.drop e.immediates, decode_eq_instr_iff.2 ⟨_, hr, ?_⟩, ?_⟩
  · rw [List.cons_append, List.take_append_drop]
  · rw [Instr.length, hr.encode_eq, List.length_cons, himm]

/-- Settles O5: the encoder is written in these patterns, so only the halves of a word immediate are to be compared. -/
theorem encodingsFollowTheTable : Obligations.EncodingsFollowTheTable := by
  intro i
  refine ⟨encode i, rfl, decode_eq_instr_iff.2 ⟨_, readAs_encode i, (List.append_nil _).symm⟩, ?_⟩
  rw [encode]
  cases i.form with
  | ldPairImm dst d16 => rw [Form.immediateBytes, getLow_eq_setWidth, getHigh_eq_shift]; rfl
  | _ => rfl

/-- Settles O4: the length is read off the form's immediate bytes; that the opcode byte fixes it is the decoder's side. -/
theorem instructionLengths : Obligations.InstructionLengths := by
  refine ⟨fun i => ?_, fun i j h => ?_⟩
  · rw [Instr.length, encode]
    cases i.form <;> rfl
  · have hi := (readAs_encode i).length_eq
    rw [h] at hi
    exact Option.some.inj (hi.symm.trans (readAs_encode j).length_eq)

/-- Settles O6: each word is decoded by evaluation. -/
theorem sampleWordsDecode : Obligations.SampleWordsDecode := by
  unfold Obligations.SampleWordsDecode
  decide

/-! ### The undecoded opcodes -/

/-- The bytes of R79 are those read as an undecoded instruction of their own byte. -/
theorem isUndecodedOpcode_iff (op : Byte) :
    isUndecodedOpcode op = true ↔ ∃ i, ReadAs [op] i ∧ i.form = .undecoded op := by
  rw [← opcodeEntry_undecoded op]
  constructor
  · intro h
    split at h
    · next i he => exact ⟨i, .op he, of_decide_eq_true h⟩
    · cases h
  · rintro ⟨i, hr, hf⟩
    cases hr with
    | op he => rw [he]; exact decide_eq_true hf

/-- An undecoded form holds a byte of R79, since its own byte is all its encoding. -/
theorem instr_wf (i : Instr) : i.wf = true := by
  have hr := readAs_encode i
  rw [encode] at hr
  rw [Instr.wf]
  cases hf : i.form with
  | undecoded op =>
    rw [hf] at hr
    exact (isUndecodedOpcode_iff op).2 ⟨i, hr, hf⟩
  | _ => rfl

/-- The bytes R79 lists are 145. -/
theorem undecodedOpcodes_length :
    ((List.range 256).filter fun n => isUndecodedOpcode (BitVec.ofNat 8 n)).length = 145 := by decide +kernel

/-- Settles O7: a byte that decodes alone is read as its instruction. -/
theorem undecodedOpcodesAreThoseListed : Obligations.UndecodedOpcodesAreThoseListed := by
  refine ⟨fun op => ?_, undecodedOpcodes_length, instr_wf⟩
  simp only [isUndecodedOpcode_iff, decode_eq_instr_iff, List.append_nil, exists_eq_right']

end Sys2Proof
end

section
/-! The Execution Step (spec/40_step_dispatch): when one is taken, what it returns, and which instruction it runs, from the
bytes at `pc` and from a word placed there. -/

namespace Sys2Proof.Machine

/-! ### When a Step is taken, and what it returns -/

/-- Settles O11: the two states that R95 names are the first two cases of `step`. -/
theorem stepIsNotEnabledWhenFaultedOrHalted : Obligations.StepIsNotEnabledWhenFaultedOrHalted := by
  refine ⟨fun s c hfaulted => ?_, fun s hrunning hhalted => ?_⟩
  · rw [step, hfaulted]
  · rw [step, hrunning, hhalted]

/-- Settles O12: every fetch and every instruction answers a next state, and only an enabled state comes to them. -/
theorem stepAnswersExactlyWhenEnabled : Obligations.StepAnswersExactlyWhenEnabled := fun _ =>
  ⟨step_answers, fun ⟨_, h⟩ => enabled_of_step h⟩

/-- What has happened where a Step returns `r` (R90). -/
def ReturnsFor (s : State) : StepResult → Prop
  | .cost n => ∃ t, Completes s t ∧ t.cycles = s.cycles + n
  | .raised c => ∃ t, Raises s c t
  | .notEnabled => ¬ s.enabled

theorem stepResult_of_completes {s t : State} (h : Completes s t) : stepResult s = .cost (t.cycles - s.cycles) := by
  obtain ⟨hstep, hrunning⟩ := h
  simp only [stepResult, hstep, hrunning]

theorem stepResult_of_raises {s t : State} {c : Cause} (h : Raises s c t) : stepResult s = .raised c := by
  obtain ⟨hstep, hfaulted⟩ := h
  simp only [stepResult, hstep, hfaulted]

theorem stepResult_of_not_enabled {s : State} (h : ¬ s.enabled) : stepResult s = .notEnabled := by
  unfold stepResult
  cases hstep : step s with
  | next t => exact absurd (enabled_of_step hstep) h
  | fault _ | refused _ => rfl

/-- A Step completes, raises, or is not taken; the count it returns is the one it added (R26, R90). -/
theorem returnsFor_stepResult {s : State} (hp : s.params.wf = true) : ReturnsFor s (stepResult s) := by
  by_cases henabled : s.enabled
  · obtain ⟨t, hstep⟩ := step_answers henabled
    cases hstatus : t.status with
    | running =>
      have hcompletes : Completes s t := ⟨hstep, hstatus⟩
      have hlt := cyclesNeverDecrease.2 s t hp hcompletes
      rw [stepResult_of_completes hcompletes]
      exact ⟨t, hcompletes, by omega⟩
    | faulted c =>
      rw [stepResult_of_raises ⟨hstep, hstatus⟩]
      exact ⟨t, hstep, hstatus⟩
  · rw [stepResult_of_not_enabled henabled]
    exact henabled

/-- The result tells what has happened, and what has happened determines the result. -/
theorem stepResult_eq_iff {s : State} (hp : s.params.wf = true) (r : StepResult) :
    stepResult s = r ↔ ReturnsFor s r := by
  refine ⟨fun h => h ▸ returnsFor_stepResult hp, fun h => ?_⟩
  cases r with
  | cost n =>
    obtain ⟨t, hcompletes, hcycles⟩ := h
    rw [stepResult_of_completes hcompletes, hcycles, Nat.add_sub_cancel_left]
  | raised c =>
    obtain ⟨t, hraises⟩ := h
    exact stepResult_of_raises hraises
  | notEnabled => exact stepResult_of_not_enabled h

/-- Settles O13: a completed Step adds at least one cycle, so the count it returns is what it added. -/
theorem stepResultIsCostOrFaultOrNothing : Obligations.StepResultIsCostOrFaultOrNothing := by
  intro s hp
  refine ⟨fun n => stepResult_eq_iff hp _, fun n h => ?_, fun c => stepResult_eq_iff hp _, stepResult_eq_iff hp _⟩
  obtain ⟨t, hcompletes, hcycles⟩ := (stepResult_eq_iff hp _).1 h
  have hlt := cyclesNeverDecrease.2 s t hp hcompletes
  omega

/-! ### The instruction at the program counter -/

/-- The first of the bytes read stands at the address, the others from the next address on. -/
theorem readBytes_eq_cons {s : State} {a : Word} {n : Nat} {b : Byte} {bs : List Byte}
    (h : readBytes s a n = some (b :: bs)) : memRead s a = some b ∧ ∃ m, readBytes s (a + 1) m = some bs := by
  cases n with
  | zero => cases h
  | succ m =>
    rw [readBytes] at h
    split at h
    · next hb hbs =>
      cases h
      exact ⟨hb, m, hbs⟩
    · cases h

theorem fetchInstr_of_entry_op {s : State} {op : Byte} {i : Instr} (hop : memRead s s.pc = some op)
    (he : opcodeEntry op = some (.op i)) : fetchInstr s = .handler i s.advancePc := by
  simp only [fetchInstr, hop, he]

theorem fetchInstr_of_entry_d8 {s : State} {op d8 : Byte} {dst : ImmDst} (hop : memRead s s.pc = some op)
    (he : opcodeEntry op = some (.opD8 dst)) (hd8 : memRead s (s.pc + 1) = some d8) :
    fetchInstr s = .handler (instrD8 dst d8) s.advancePc := by
  simp only [fetchInstr, hop, he, fetchD8, State.advancePc_pc, memRead_advancePc, hd8]

theorem fetchInstr_of_entry_d16 {s : State} {op lo hi : Byte} {dst : Pair} (hop : memRead s s.pc = some op)
    (he : opcodeEntry op = some (.opD16 dst)) (hlo : memRead s (s.pc + 1) = some lo)
    (hhi : memRead s (s.pc + 1 + 1) = some hi) :
    fetchInstr s = .handler (instrD16 dst (joinBytes hi lo)) s.advancePc := by
  simp only [fetchInstr, hop, he, fetchD16, State.advancePc_pc, State.loadLowHalf_pc, memRead_advancePc,
    memRead_loadLowHalf, hlo, hhi]

/-- The fetch reads the bytes at `pc` as the decoder does (R91 to R93). -/
theorem fetchInstr_of_readAs {s : State} {bs rest : List Byte} {i : Instr} {n : Nat} (hr : ReadAs bs i)
    (hbytes : readBytes s s.pc n = some (bs ++ rest)) : fetchInstr s = .handler i s.advancePc := by
  cases hr with
  | op he =>
    obtain ⟨hop, -⟩ := readBytes_eq_cons hbytes
    exact fetchInstr_of_entry_op hop he
  | d8 he d8 =>
    obtain ⟨hop, _, hbytes1⟩ := readBytes_eq_cons hbytes
    obtain ⟨hd8, -⟩ := readBytes_eq_cons hbytes1
    exact fetchInstr_of_entry_d8 hop he hd8
  | d16 he d16 =>
    obtain ⟨hop, _, hbytes1⟩ := readBytes_eq_cons hbytes
    obtain ⟨hlo, _, hbytes2⟩ := readBytes_eq_cons hbytes1
    obtain ⟨hhi, -⟩ := readBytes_eq_cons hbytes2
    simpa using fetchInstr_of_entry_d16 hop he hlo hhi

/-- Settles O8: the fetch agrees with the decoder on the bytes at `pc`. -/
theorem stepRunsTheDecodedInstruction : Obligations.StepRunsTheDecodedInstruction := by
  intro s n bytes rest i hs hbytes hd
  obtain ⟨bs, hr, rfl⟩ := decode_eq_instr_iff.1 hd
  rw [step_enabled hs, fetchInstr_of_readAs hr hbytes]
  rfl

/-! ### A word placed at the program counter (log 19) -/

theorem placeBytes_pc (s : State) (a : Word) (bs : List Byte) : (placeBytes s a bs).pc = s.pc := by
  induction bs generalizing s a with
  | nil => rfl
  | cons b bs ih =>
    obtain ⟨hpc, -⟩ := placeByte_fields s a b
    rw [placeBytes, ih, hpc]

theorem placeBytes_enabled {s : State} (hs : s.enabled) (a : Word) (bs : List Byte) : (placeBytes s a bs).enabled := by
  induction bs generalizing s a with
  | nil => exact hs
  | cons b bs ih =>
    obtain ⟨-, hstatus, hhalted, -⟩ := placeByte_fields s a b
    exact ih ⟨hstatus.trans hs.1, hhalted.trans hs.2⟩ _

/-- Three bytes placed where three can be read are read back: a byte placed further on changes none before it. -/
theorem readBytes_placeBytes_three {s : State} (hi : s.Inv) {a : Word} (hread : ∃ l, readBytes s a 3 = some l)
    (b0 b1 b2 : Byte) : readBytes (placeBytes s a [b0, b1, b2]) a 3 = some [b0, b1, b2] := by
  obtain ⟨hd0, hd1, hd2⟩ := decoded_of_readBytes3 hread
  have hn1 := toNat_add_one_of_decoded hd0
  have hn2 := toNat_add_one_of_decoded hd1
  let s1 := placeByte s a b0
  let s2 := placeByte s1 (a + 1) b1
  let s3 := placeByte s2 (a + 1 + 1) b2
  have hi1 : s1.Inv := placeByte_inv hi a b0
  have hi2 : s2.Inv := placeByte_inv hi1 (a + 1) b1
  have h0 : memRead s3 a = some b0 := calc
    memRead s3 a = memRead s2 a := memRead_placeByte_before hi2 (k := 2) (by decide) (by decide) (by omega) b2
    _ = memRead s1 a := memRead_placeByte_before hi1 Nat.one_pos (by decide) hn1 b1
    _ = some b0 := memRead_placeByte_same hi b0 hd0
  have h1 : memRead s3 (a + 1) = some b1 := calc
    memRead s3 (a + 1) = memRead s2 (a + 1) := memRead_placeByte_before hi2 Nat.one_pos (by decide) hn2 b2
    _ = some b1 := memRead_placeByte_same hi1 b1 hd1
  have h2 : memRead s3 (a + 1 + 1) = some b2 := memRead_placeByte_same hi2 b2 hd2
  show readBytes s3 a 3 = _
  simp only [readBytes, h0, h1, h2]

/-- No word is rejected: its three bytes are enough for every opcode (30_encoding R72). -/
theorem decode_tableBytes (nbits w : Nat) : ∃ i rest, decode (tableBytes nbits w) = .instr i rest := by
  obtain ⟨-, htotal⟩ := decodingFailsOnlyForMissingBytes
  obtain ⟨n, hn, hdecode⟩ := htotal (BitVec.ofNat 8 (w % 2 ^ nbits))
  obtain ⟨i, rest, h, -⟩ := (hdecode [BitVec.ofNat 8 (w % 2 ^ nbits / 256), BitVec.ofNat 8 (w % 2 ^ nbits / 65536)]).1 hn
  exact ⟨i, rest, h⟩

/-- Settles O60: the word's bytes are read back at `pc`, so the Step runs what the decoder makes of them. -/
theorem placedWordIsTheNextInstruction : Obligations.PlacedWordIsTheNextInstruction := by
  intro s nbits w hi
  obtain ⟨hinv, henabled, hread⟩ := readyToFetch_spec hi
  obtain ⟨i, rest, hd⟩ := decode_tableBytes nbits w
  have hpc : (s.withFetchWord nbits w).pc = (readyToFetch s).pc := placeBytes_pc _ _ _
  have hbytes : readBytes (s.withFetchWord nbits w) (s.withFetchWord nbits w).pc 3 = some (tableBytes nbits w) := by
    rw [hpc]
    exact readBytes_placeBytes_three hinv hread _ _ _
  refine ⟨i, by simp only [decodeTableWord, hd], ?_⟩
  exact stepRunsTheDecodedInstruction _ 3 _ rest i (placeBytes_enabled henabled _ _) hbytes hd

end Sys2Proof.Machine
end

section
/-! The 8-bit loads (spec/41_load_8bit): what a register load, a store at HL and a step of HL leave behind them, where the
access raises, and where the fetch of the immediate does. -/

namespace Sys2Proof.Machine

/-! ### What stays as it was -/

theorem sameMemory_iff {s t : State} : SameMemory s t ↔
    (∀ a, memRead t a = memRead s a) ∧ t.overlayEnabled = s.overlayEnabled ∧ t.rom = s.rom ∧ t.boot = s.boot ∧
    t.vram = s.vram ∧ t.eram = s.eram ∧ t.wram = s.wram ∧ t.hram = s.hram :=
  ⟨fun ⟨h0, h1, h2, h3, h4, h5, h6, h7⟩ => ⟨h0, h1, h2, h3, h4, h5, h6, h7⟩,
    fun ⟨h0, h1, h2, h3, h4, h5, h6, h7⟩ => ⟨h0, h1, h2, h3, h4, h5, h6, h7⟩⟩

theorem sameControl_iff {s t : State} :
    SameControl s t ↔ t.halted = s.halted ∧ t.status = s.status ∧ t.params = s.params :=
  ⟨fun ⟨h0, h1, h2⟩ => ⟨h0, h1, h2⟩, fun ⟨h0, h1, h2⟩ => ⟨h0, h1, h2⟩⟩

theorem SameMemory.trans {s t u : State} (h : SameMemory s t) (h' : SameMemory t u) : SameMemory s u where
  reads a := (h'.reads a).trans (h.reads a)
  overlay := h'.overlay.trans h.overlay
  rom := h'.rom.trans h.rom
  boot := h'.boot.trans h.boot
  vram := h'.vram.trans h.vram
  eram := h'.eram.trans h.eram
  wram := h'.wram.trans h.wram
  hram := h'.hram.trans h.hram

theorem SameControl.trans {s t u : State} (h : SameControl s t) (h' : SameControl t u) : SameControl s u where
  halted := h'.halted.trans h.halted
  status := h'.status.trans h.status
  params := h'.params.trans h.params

theorem sameMemory_advancePc (s : State) : SameMemory s s.advancePc := sameMemory_iff.2 (by simp)

theorem sameControl_advancePc (s : State) : SameControl s s.advancePc := ⟨rfl, rfl, rfl⟩

section
variable {s t : State} {a : Word} {v : Byte}

/-- A store writes no register. -/
theorem memWrite_registers (h : memWrite s a v = some t) :
    t.af = s.af ∧ t.bc = s.bc ∧ t.de = s.de ∧ t.hl = s.hl ∧ t.sp = s.sp ∧ t.pc = s.pc := by
  rw [memWrite_frame h]
  exact ⟨rfl, rfl, rfl, rfl, rfl, rfl⟩

theorem memWrite_readReg8 (h : memWrite s a v = some t) (q : Reg8) : t.readReg8 q = s.readReg8 q := by
  rw [memWrite_frame h]
  cases q <;> rfl

theorem memWrite_sameControl (h : memWrite s a v = some t) : SameControl s t := by
  rw [memWrite_frame h]
  exact ⟨rfl, rfl, rfl⟩

end

/-! ### Loads and stores with their cost -/

/-- A load of a byte register with its cost, from the state `s` (R100, R101, R103): the one register and the count change. -/
theorem writeReg8_addCycles_effect (s : State) (dst : Reg8) (v : Byte) (n : Nat) :
    ((s.writeReg8 dst v).addCycles n).readReg8 dst = v ∧
    ((s.writeReg8 dst v).addCycles n).cycles = s.cycles + n ∧
    (∀ q, q ≠ dst → ((s.writeReg8 dst v).addCycles n).readReg8 q = s.readReg8 q) ∧
    ((s.writeReg8 dst v).addCycles n).readF = s.readF ∧ ((s.writeReg8 dst v).addCycles n).sp = s.sp ∧
    ((s.writeReg8 dst v).addCycles n).pc = s.pc ∧ SameMemory s ((s.writeReg8 dst v).addCycles n) ∧
    SameControl s ((s.writeReg8 dst v).addCycles n) := by
  have others : ∀ q, q ≠ dst → ((s.writeReg8 dst v).addCycles n).readReg8 q = s.readReg8 q := fun q hq => by
    rw [State.readReg8_addCycles, State.readReg8_writeReg8, if_neg hq]
  refine ⟨by simp, by simp, others, by simp, by simp, by simp, sameMemory_iff.2 ?_, sameControl_iff.2 ?_⟩ <;> simp

/-- A store with its cost (R102, R104): the stored byte and the count change. -/
theorem memWrite_addCycles_effect {s u : State} (hi : s.Inv) {a : Word} {v : Byte} (hu : memWrite s a v = some u)
    (n : Nat) : StoredAt s (u.addCycles n) a v ∧ (u.addCycles n).cycles = s.cycles + n ∧
    (∀ q, (u.addCycles n).readReg8 q = s.readReg8 q) ∧ (u.addCycles n).readF = s.readF ∧ (u.addCycles n).sp = s.sp ∧
    (u.addCycles n).pc = s.pc ∧ SameControl s (u.addCycles n) := by
  have hstored := (memWrite_storedAt hi.memories hu).then_sameMemory (u := u.addCycles n) (sameMemory_iff.2 (by simp))
  have hcycles := memWrite_cycles hu
  have hF := memWrite_readF hu
  obtain ⟨-, -, -, -, hsp, hpc⟩ := memWrite_registers hu
  exact ⟨hstored, congrArg (· + n) hcycles,
    fun q => (State.readReg8_addCycles u n q).trans (memWrite_readReg8 hu q), hF, hsp, hpc,
    (memWrite_sameControl hu).trans ⟨rfl, rfl, rfl⟩⟩

/-! ### Where an access raises -/

theorem withRead_of_undecoded {s : State} {a : Word} (h : undecodedForRead a = true) (k : Byte → Out) :
    withRead s a k = .next { s with status := .faulted (.undecodedAddress a .read) } :=
  withRead_none ((memRead_none_iff_undecoded s a).2 h)

theorem withWrite_of_undecoded {s : State} {a : Word} (h : undecodedForWrite a = true) (v : Byte) (k : State → Out) :
    withWrite s a v k = .next { s with status := .faulted (.undecodedAddress a .write) } :=
  withWrite_none ((memWrite_none_iff_undecoded s a v).2 h)

/-- A Step whose first immediate byte does not decode raises, with `pc` at that byte and nothing else done (40_step_dispatch
R91, 60_exceptions R156). -/
theorem raises_of_immediate_undecoded {s : State} {op : Byte} {e : Entry} (hs : s.enabled)
    (hop : memRead s s.pc = some op) (he : opcodeEntry op = some e) (himm : e.immediates ≠ 0)
    (h : undecodedForRead (s.pc + 1) = true) : Raises s (.undecodedAddress (s.pc + 1) .read)
      { s with pc := s.pc + 1, status := .faulted (.undecodedAddress (s.pc + 1) .read) } := by
  have hnone : memRead s (s.pc + 1) = none := (memRead_none_iff_undecoded s _).2 h
  have hfetch : fetchInstr s = .raised (takeFault (.undecodedAddress (s.pc + 1) .read) s.advancePc) := by
    cases e with
    | op i => exact absurd rfl himm
    | opD8 dst => simp only [fetchInstr, hop, he, fetchD8, State.advancePc_pc, memRead_advancePc, hnone]
    | opD16 dst => simp only [fetchInstr, hop, he, fetchD16, State.advancePc_pc, memRead_advancePc, hnone]
  refine ⟨?_, rfl⟩
  rw [step_enabled hs, hfetch]
  rfl

theorem opcodeEntry_ldRegImm (dst : Reg8) (d8 : Byte) :
    opcodeEntry (Form.ldRegImm dst d8).opcode = some (.opD8 (.reg dst)) := by
  have hform : (instrD8 (.reg dst) d8).form = .ldRegImm dst d8 := by cases dst <;> rfl
  rw [← hform, opcodeEntry_instrD8]

theorem opcodeEntry_ldAtHLImm (d8 : Byte) : opcodeEntry (Form.ldAtHLImm d8).opcode = some (.opD8 .atHL) :=
  opcodeEntry_instrD8 .atHL d8

/-! ### Loads of a register -/

/-- Settles O38: the effect of a register load, from the source register. -/
theorem loadRegisterFromRegister : Obligations.LoadRegisterFromRegister := by
  intro i dst src s hf
  refine ⟨_, ?_, writeReg8_addCycles_effect s dst (s.readReg8 src) 1⟩
  rw [exec_eq_runForm, hf]
  rfl

/-- Settles O39: the read at HL succeeds, and a register load follows, or it raises. -/
theorem loadRegisterFromPointer : Obligations.LoadRegisterFromPointer := by
  intro i dst s hf
  have hexec : exec i s = withRead s s.hl fun v => returnCost 2 (s.writeReg8 dst v) := by
    rw [exec_eq_runForm, hf]
    rfl
  refine ⟨fun hdec => ?_, fun hund => hexec.trans (withRead_of_undecoded hund _)⟩
  obtain ⟨v, hv⟩ := memRead_some_of_decoded s hdec
  exact ⟨v, _, hv, hexec.trans (withRead_some hv), writeReg8_addCycles_effect s dst v 2⟩

/-- Settles O41: the effect of a register load in the state past the immediate, and the fault of the immediate's fetch. -/
theorem loadRegisterImmediate : Obligations.LoadRegisterImmediate := by
  intro i dst d8 s hf
  constructor
  · obtain ⟨hdst, hcycles, hothers, hF, hsp, hpc, hmem, hctl⟩ := writeReg8_addCycles_effect s.advancePc dst d8 2
    refine ⟨(s.advancePc.writeReg8 dst d8).addCycles 2, ?_, hdst, hpc, hcycles, fun q hq => ?_, hF, hsp,
      (sameMemory_advancePc s).trans hmem, (sameControl_advancePc s).trans hctl⟩
    · rw [exec_eq_runForm, hf]
      rfl
    · rw [hothers q hq, State.readReg8_advancePc]
  · intro hs hop hund
    rw [hf] at hop
    exact raises_of_immediate_undecoded hs hop (opcodeEntry_ldRegImm dst d8) Nat.one_ne_zero hund

/-! ### Stores at HL -/

/-- Settles O40: the store at HL succeeds and keeps the rest, or it raises. -/
theorem storeRegisterAtPointer : Obligations.StoreRegisterAtPointer := by
  intro i src s hf
  have hexec : exec i s = withWrite s s.hl (s.readReg8 src) fun u => returnCost 2 u := by
    rw [exec_eq_runForm, hf]
    rfl
  refine ⟨fun hi hdec => ?_, fun hund => hexec.trans (withWrite_of_undecoded hund _ _)⟩
  obtain ⟨u, hu⟩ := memWrite_some_of_decoded s (s.readReg8 src) hdec
  exact ⟨_, hexec.trans (withWrite_some hu), memWrite_addCycles_effect hi hu 2⟩

/-- Settles O42: the store is made, or raises, in the state past the immediate, whose own fetch may raise before it. -/
theorem storeImmediateAtPointer : Obligations.StoreImmediateAtPointer := by
  intro i d8 s hf
  have hexec : exec i s = withWrite s.advancePc s.hl d8 fun u => returnCost 3 u := by
    rw [exec_eq_runForm, hf]
    rfl
  refine ⟨fun hi hdec => ?_, fun hund => hexec.trans (withWrite_of_undecoded hund _ _), fun hs hop hund => ?_⟩
  · obtain ⟨u, hu⟩ := memWrite_some_of_decoded s.advancePc d8 hdec
    obtain ⟨hstored, hcycles, hregs, hF, hsp, hpc, hctl⟩ := memWrite_addCycles_effect (kept_inv.advancePc s hi) hu 3
    exact ⟨_, hexec.trans (withWrite_some hu), hstored.after_sameMemory (sameMemory_advancePc s), hpc, hcycles,
      fun q => (hregs q).trans (State.readReg8_advancePc s q), hF, hsp, (sameControl_advancePc s).trans hctl⟩
  · rw [hf] at hop
    exact raises_of_immediate_undecoded hs hop (opcodeEntry_ldAtHLImm d8) Nat.one_ne_zero hund

/-! ### The accumulator at HL, and the step of HL -/

/-- Settles O43: the store at the old HL keeps HL, which is then stepped; or it raises. -/
theorem storeAccumulatorAndStepPointer : Obligations.StoreAccumulatorAndStepPointer := by
  intro i s hf
  have hexec : exec i s = withWrite s s.hl (s.readReg8 .a) fun u =>
      returnCost 2 (u.writePair .hl (if i.form = .ldAtHLIncA then u.hl + 1 else u.hl - 1)) := by
    rcases hf with hf | hf <;> rw [exec_eq_runForm, hf] <;> rfl
  refine ⟨fun hi hdec => ?_, fun hund => hexec.trans (withWrite_of_undecoded hund _ _)⟩
  obtain ⟨u, hu⟩ := memWrite_some_of_decoded s (s.readReg8 .a) hdec
  obtain ⟨haf, hbc, hde, hhl, hsp, hpc⟩ := memWrite_registers hu
  have hcycles := memWrite_cycles hu
  have hstored := memWrite_storedAt hi.memories hu
  refine ⟨_, hexec.trans (withWrite_some hu), hstored.then_sameMemory (sameMemory_iff.2 (by simp)), ?_,
    congrArg (· + 2) hcycles, haf, hbc, hde, hsp, hpc, (memWrite_sameControl hu).trans ⟨rfl, rfl, rfl⟩⟩
  rw [hhl]
  rfl

/-- Settles O44: the read at the old HL succeeds, and A and HL are written after it; or it raises before either. -/
theorem loadAccumulatorAndStepPointer : Obligations.LoadAccumulatorAndStepPointer := by
  intro i s hf
  have hexec : exec i s = withRead s s.hl fun v => returnCost 2
      ((s.writeReg8 .a v).writePair .hl (if i.form = .ldAAtHLInc then s.hl + 1 else s.hl - 1)) := by
    rcases hf with hf | hf <;> rw [exec_eq_runForm, hf] <;> rfl
  refine ⟨fun hdec => ?_, fun hund => hexec.trans (withRead_of_undecoded hund _)⟩
  obtain ⟨v, hv⟩ := memRead_some_of_decoded s hdec
  have hA : getHigh (setHigh s.af v) = v := getHigh_setHigh s.af v
  have hF : getLow (setHigh s.af v) = getLow s.af := getLow_setHigh s.af v
  exact ⟨v, _, hv, hexec.trans (withRead_some hv), hA, rfl, rfl, hF, rfl, rfl, rfl, rfl, sameMemory_iff.2 (by simp),
    ⟨rfl, rfl, rfl⟩⟩

end Sys2Proof.Machine
end

section
/-! The 16-bit immediate load and the stack (spec/42_load16_stack): the two halves of the load, and the two stores of a push
and the two reads of a pop in the states where they are made. -/

namespace Sys2Proof.Machine

/-! ### The 16-bit immediate load -/

theorem opcodeEntry_ldPairImm (dst : Pair) (d16 : Word) :
    opcodeEntry (Form.ldPairImm dst d16).opcode = some (.opD16 dst) := by
  have hform : (instrD16 dst d16).form = .ldPairImm dst d16 := by cases dst <;> rfl
  rw [← hform, opcodeEntry_instrD16]

@[simp] theorem State.readPair_advancePc (s : State) (q : Pair) : s.advancePc.readPair q = s.readPair q := by
  cases q <;> rfl

@[simp] theorem State.readPair_takeFault (s : State) (c : Cause) (q : Pair) :
    (takeFault c s).readPair q = s.readPair q := by
  cases q <;> rfl

/-- The first half of the load writes the low byte of the one pair (R120). -/
theorem State.readPair_loadLowHalf (s : State) (dst q : Pair) (lo : Byte) :
    (s.loadLowHalf dst lo).readPair q = if q = dst then setLow (s.readPair dst) lo else s.readPair q := by
  rw [State.loadLowHalf, State.readPair_writePair, State.readPair_advancePc]

/-- Both halves of the load are one write of the pair, after both bytes (R120). -/
theorem State.loadHalves_eq_writePair (s : State) (dst : Pair) (d16 : Word) :
    (s.loadLowHalf dst (getLow d16)).loadHighHalf dst (getHigh d16) = s.advancePc.advancePc.writePair dst d16 := by
  rw [State.loadHalves]
  cases dst <;> rfl

/-- A Step whose second immediate byte does not decode raises, with `pc` at that byte and the low half of the pair written
(R120, 60_exceptions R156). -/
theorem raises_of_second_immediate_undecoded {s : State} {op lo : Byte} {dst : Pair} (hs : s.enabled)
    (hop : memRead s s.pc = some op) (he : opcodeEntry op = some (.opD16 dst)) (hlo : memRead s (s.pc + 1) = some lo)
    (h : undecodedForRead (s.pc + 1 + 1) = true) : Raises s (.undecodedAddress (s.pc + 1 + 1) .read)
      (takeFault (.undecodedAddress (s.pc + 1 + 1) .read) (s.advancePc.loadLowHalf dst lo)) := by
  have hnone : memRead s (s.pc + 1 + 1) = none := (memRead_none_iff_undecoded s _).2 h
  have hfetch : fetchInstr s = .raised
      (takeFault (.undecodedAddress (s.pc + 1 + 1) .read) (s.advancePc.loadLowHalf dst lo)) := by
    simp only [fetchInstr, hop, he, fetchD16, State.advancePc_pc, State.loadLowHalf_pc, memRead_advancePc,
      memRead_loadLowHalf, hlo, hnone]
  refine ⟨?_, rfl⟩
  rw [step_enabled hs, hfetch]

theorem add_one_add_one (a : Word) : a + 1 + 1 = a + 2 := BitVec.add_assoc a 1 1

/-- Settles O10: the fault of either immediate's fetch; the second leaves the low half of the pair written. -/
theorem wordImmediateFetchFaults : Obligations.WordImmediateFetchFaults := by
  intro s i dst d16 hs hf hop
  rw [hf] at hop
  have hentry := opcodeEntry_ldPairImm dst d16
  refine ⟨raises_of_immediate_undecoded hs hop hentry (Nat.succ_ne_zero 1), fun lo hlo hund => ?_⟩
  rw [← add_one_add_one] at hund ⊢
  have hmem : SameMemory s (takeFault (.undecodedAddress (s.pc + 1 + 1) .read) (s.advancePc.loadLowHalf dst lo)) :=
    sameMemory_iff.2 (by simp)
  refine ⟨_, raises_of_second_immediate_undecoded hs hop hentry hlo hund, ?_, ?_, fun q hq => ?_, ?_, ?_, ?_, ?_, hmem⟩
  · simp [State.readPair_loadLowHalf]
  · simp [State.readPair_loadLowHalf]
  · simp [State.readPair_loadLowHalf, hq]
  all_goals simp

/-- Settles O45: the load is one write of the pair in the state past both immediates. -/
theorem loadPairImmediate : Obligations.LoadPairImmediate := by
  intro i dst d16 s hf
  have hexec : exec i s = returnCost 3 (s.advancePc.advancePc.writePair dst d16) := by
    rw [exec_eq_runForm, hf, ← State.loadHalves_eq_writePair]
    rfl
  have hpc : ((s.advancePc.advancePc.writePair dst d16).addCycles 3).pc = s.pc + 2 := by
    rw [State.addCycles_pc, State.writePair_pc]
    exact add_one_add_one s.pc
  refine ⟨_, hexec, ?_, hpc, by simp, fun q hq => ?_, ?_, sameMemory_iff.2 (by simp), sameControl_iff.2 (by simp)⟩
  · simp [State.readPair_writePair]
  · simp [State.readPair_writePair, hq]
  · simp

/-! ### The pairs of the stack -/

theorem State.readStackPair_congr {s t : State} (haf : t.af = s.af) (hbc : t.bc = s.bc) (hde : t.de = s.de)
    (hhl : t.hl = s.hl) (r : StackPair) : t.readStackPair r = s.readStackPair r := by
  cases r with
  | af => exact haf
  | bc => exact hbc
  | de => exact hde
  | hl => exact hhl

/-- The mask of a popped AF falls on the low byte alone (10_state R23). -/
theorem joinBytes_and_af (hi lo : Byte) : joinBytes hi lo &&& 0xFFF0 = joinBytes hi (lo &&& 0xF0) :=
  eq_of_bytes (by rw [getHigh_and_af, getHigh_joinBytes, getHigh_joinBytes])
    (by rw [getLow_and_af, getLow_joinBytes, getLow_joinBytes])

/-! ### Push -/

theorem exec_push {i : Instr} {src : StackPair} (hf : i.form = .push src) (s : State) :
    exec i s = withWrite s.decSp (s.sp - 1) (getHigh (s.readStackPair src)) fun u =>
      withWrite u.decSp (u.sp - 1) (getLow (u.readStackPair src)) fun w => returnCost w.params.cycPush w := by
  rw [exec_eq_runForm, hf]
  cases src <;> rfl

theorem sub_one_sub_one (a : Word) : a - 1 - 1 = a - 2 := BitVec.sub_sub a 1 1

section
variable {s u w : State} {a b : Word} {v x : Byte}

/-- A store after a decrement of SP, as a push makes it: SP is one lower, and no other register is written (R121). -/
theorem memWrite_decSp_registers (hu : memWrite s.decSp a v = some u) :
    u.sp = s.sp - 1 ∧ u.af = s.af ∧ u.bc = s.bc ∧ u.de = s.de ∧ u.hl = s.hl ∧ u.pc = s.pc := by
  obtain ⟨haf, hbc, hde, hhl, hsp, hpc⟩ := memWrite_registers hu
  exact ⟨hsp, haf, hbc, hde, hhl, hpc⟩

theorem memWrite_decSp_cycles (hu : memWrite s.decSp a v = some u) : u.cycles = s.cycles :=
  memWrite_cycles (s := s.decSp) hu

theorem memWrite_decSp_sameControl (hu : memWrite s.decSp a v = some u) : SameControl s u :=
  (show SameControl s s.decSp from ⟨rfl, rfl, rfl⟩).trans (memWrite_sameControl hu)

theorem memWrite_decSp_inv (hi : s.Inv) (hu : memWrite s.decSp a v = some u) : u.Inv :=
  kept_inv.memWrite _ _ _ _ (kept_inv.decSp s hi) hu

theorem memWrite_decSp_storedAt (hi : s.Inv) (hu : memWrite s.decSp a v = some u) : StoredAt s u a v :=
  (memWrite_storedAt (s := s.decSp) hi.memories hu).after_sameMemory (sameMemory_iff.2 (by simp))

/-- What each address reads as after the two stores of a push, where neither disables the overlay (20_memory R49 to R52). -/
theorem memRead_two_stores (hi : s.Inv) (hu : memWrite s.decSp a v = some u) (hw : memWrite u.decSp b x = some w)
    (ha : a ≠ 0xFF50) (hb : b ≠ 0xFF50) (hab : a ≠ b) :
    (isRam a = true → memRead w a = some v) ∧ (isRam b = true → memRead w b = some x) ∧
    (isRam a = false → memRead w a = memRead s a) ∧ (isRam b = false → memRead w b = memRead s b) ∧
    ∀ c, c ≠ a → c ≠ b → memRead w c = memRead s c := by
  have first := memWrite_decSp_storedAt hi hu
  have second := memWrite_decSp_storedAt (memWrite_decSp_inv hi hu) hw
  have kept : memRead w a = memRead u a := second.elsewhere hb a hab
  have firstRom : isRam a = false → memRead u a = memRead s a := fun h => memRead_memWrite_notRam (s := s.decSp) hu h ha
  have secondRom : isRam b = false → memRead w b = memRead u b := fun h =>
    memRead_memWrite_notRam (s := u.decSp) hw h hb
  exact ⟨fun h => kept.trans (first.stored h), second.stored, fun h => kept.trans (firstRom h),
    fun h => (secondRom h).trans (first.elsewhere ha b hab.symm),
    fun c hca hcb => (second.elsewhere hb c hcb).trans (first.elsewhere ha c hca)⟩

end

/-- After the high byte has been stored, a push stores the low byte of the same pair, one address lower (R121). -/
theorem exec_push_of_high_stored {i : Instr} {src : StackPair} (hf : i.form = .push src) {s u : State}
    (hu : memWrite s.decSp (s.sp - 1) (getHigh (s.readStackPair src)) = some u) :
    u.sp - 1 = s.sp - 2 ∧ exec i s = withWrite u.decSp (s.sp - 2) (getLow (s.readStackPair src)) fun w =>
      returnCost w.params.cycPush w := by
  obtain ⟨hsp, haf, hbc, hde, hhl, -⟩ := memWrite_decSp_registers hu
  have hpair : u.readStackPair src = s.readStackPair src := State.readStackPair_congr haf hbc hde hhl src
  have haddr : u.sp - 1 = s.sp - 2 := by rw [hsp, sub_one_sub_one]
  refine ⟨haddr, ?_⟩
  rw [exec_push hf, withWrite_some hu, hpair, haddr]

/-- The neighbour of the one address whose store disables the overlay does not decode, so a push of two bytes that decode
never disables it (20_memory R53, R55). -/
theorem push_addresses_ne_overlayDisable {sp : Word} (h1 : undecodedForWrite (sp - 1) = false)
    (h2 : undecodedForWrite (sp - 2) = false) : sp - 1 ≠ 0xFF50 ∧ sp - 2 ≠ 0xFF50 := by
  constructor
  · intro h
    rw [← sub_one_sub_one, h] at h2
    exact absurd h2 (by decide)
  · intro h
    have : sp - 1 = 0xFF51 := by bv_omega
    rw [this] at h1
    exact absurd h1 (by decide)

theorem sub_one_ne_sub_two (a : Word) : a - 1 ≠ a - 2 := by bv_omega

/-- Settles O46: the store of the high byte, then that of the low byte, at another address; neither disables the overlay. -/
theorem pushStoresHighThenLow : Obligations.PushStoresHighThenLow := by
  intro i src s hf hinv hdec1 hdec2
  obtain ⟨u, hu⟩ := memWrite_some_of_decoded s.decSp (getHigh (s.readStackPair src)) hdec1
  obtain ⟨w, hw⟩ := memWrite_some_of_decoded u.decSp (getLow (s.readStackPair src)) hdec2
  obtain ⟨hne1, hne2⟩ := push_addresses_ne_overlayDisable hdec1 hdec2
  have hne := sub_one_ne_sub_two s.sp
  obtain ⟨hhigh, hlow, hhighRom, hlowRom, helsewhere⟩ := memRead_two_stores hinv hu hw hne1 hne2 hne
  obtain ⟨-, haf1, hbc1, hde1, hhl1, hpc1⟩ := memWrite_decSp_registers hu
  obtain ⟨hsp2, haf2, hbc2, hde2, hhl2, hpc2⟩ := memWrite_decSp_registers hw
  have hcycles : w.cycles = s.cycles := (memWrite_decSp_cycles hw).trans (memWrite_decSp_cycles hu)
  have hctl := (memWrite_decSp_sameControl hu).trans (memWrite_decSp_sameControl hw)
  obtain ⟨hsp, hexec⟩ := exec_push_of_high_stored hf hu
  refine ⟨w.addCycles w.params.cycPush, hexec.trans (withWrite_some hw), hsp2.trans hsp, ?_,
    hhigh, hlow, hhighRom, hlowRom, helsewhere,
    (memWrite_rom hw).trans (memWrite_rom hu :), (memWrite_boot hw).trans (memWrite_boot hu :),
    (memWrite_overlay_of_ne hw hne2).trans (memWrite_overlay_of_ne hu hne1 :),
    haf2.trans haf1, hbc2.trans hbc1, hde2.trans hde1, hhl2.trans hhl1, hpc2.trans hpc1, hctl.trans ⟨rfl, rfl, rfl⟩⟩
  rw [State.addCycles_cycles, hcycles, hctl.params]

/-- Settles O47: the first store raises after the first decrement; or it is made, and the second raises after the second. -/
theorem pushRaisesAfterItsDecrements : Obligations.PushRaisesAfterItsDecrements := by
  intro i src s hf
  refine ⟨fun hund => (exec_push hf s).trans (withWrite_of_undecoded hund _ _), fun hinv hdec hund => ?_⟩
  obtain ⟨u, hu⟩ := memWrite_some_of_decoded s.decSp (getHigh (s.readStackPair src)) hdec
  obtain ⟨hsp, hexec⟩ := exec_push_of_high_stored hf hu
  obtain ⟨-, haf, hbc, hde, hhl, hpc⟩ := memWrite_decSp_registers hu
  have hcycles := memWrite_decSp_cycles hu
  have hctl := memWrite_decSp_sameControl hu
  have hafter : SameMemory u (takeFault (.undecodedAddress (s.sp - 2) .write) u.decSp) := sameMemory_iff.2 (by simp)
  exact ⟨_, hexec.trans (withWrite_of_undecoded hund _ _), rfl, (memWrite_decSp_storedAt hinv hu).then_sameMemory hafter,
    hsp, hcycles, haf, hbc, hde, hhl, hpc, hctl.halted, hctl.params⟩

/-! ### Pop -/

theorem exec_pop {i : Instr} {dst : StackPair} (hf : i.form = .pop dst) (s : State) :
    exec i s = withRead s s.sp fun lo => withRead s.incSp (s.sp + 1) fun hi =>
      returnCost s.params.cycPop (s.incSp.incSp.writeStackPair dst (joinBytes hi lo)) := by
  rw [exec_eq_runForm, hf]
  rfl

/-- Settles O48: both reads succeed, and the pair is written once, after them. -/
theorem popLoadsLowThenHigh : Obligations.PopLoadsLowThenHigh := by
  intro i dst s hf hdec1 hdec2
  obtain ⟨lo, hlo⟩ := memRead_some_of_decoded s hdec1
  obtain ⟨hi, hhi⟩ := memRead_some_of_decoded s hdec2
  have hexec : exec i s = returnCost s.params.cycPop (s.incSp.incSp.writeStackPair dst (joinBytes hi lo)) := by
    rw [exec_pop hf, withRead_some hlo, withRead_some (s := s.incSp) hhi]
  refine ⟨lo, hi, _, hlo, hhi, hexec, ?_, fun q hq => ?_, ?_, ?_, ?_, sameMemory_iff.2 (by simp),
    sameControl_iff.2 (by simp)⟩
  · rw [State.readStackPair_addCycles, State.readStackPair_writeStackPair, if_pos rfl, joinBytes_and_af]
    split <;> rfl
  · rw [State.readStackPair_addCycles, State.readStackPair_writeStackPair, if_neg hq]
    exact State.readStackPair_congr rfl rfl rfl rfl q
  · rw [State.addCycles_sp, State.writeStackPair_sp]
    exact add_one_add_one s.sp
  all_goals simp

/-- Settles O49: a read that raises does so before the pair is written, in the state its increments have left. -/
theorem popRaisesWithoutWritingThePair : Obligations.PopRaisesWithoutWritingThePair := by
  intro i dst s hf
  refine ⟨fun hund => (exec_pop hf s).trans (withRead_of_undecoded hund _), fun hdec hund => ?_⟩
  obtain ⟨lo, hlo⟩ := memRead_some_of_decoded s hdec
  rw [exec_pop hf, withRead_some hlo]
  exact withRead_of_undecoded hund _

/-! ### Push, then pop -/

theorem undecodedForRead_of_isRam {a : Word} (ha : isRam a = true) : undecodedForRead a = false := by
  simp only [isRam, undecodedForRead, Bool.or_eq_true, Bool.and_eq_true, decide_eq_true_eq, Bool.or_eq_false_iff,
    Bool.and_eq_false_iff, decide_eq_false_iff_not] at ha ⊢
  omega

/-- The bytes of a value, joined as a pop into `dst` joins them (R122). -/
theorem popped_bytes (dst : StackPair) (v : Word) :
    getHigh v ++ (if dst = .af then getLow v &&& 0xF0 else getLow v) = if dst = .af then v &&& 0xFFF0 else v := by
  split
  · calc joinBytes (getHigh v) (getLow v &&& 0xF0)
      _ = joinBytes (getHigh v) (getLow v) &&& 0xFFF0 := (joinBytes_and_af _ _).symm
      _ = v &&& 0xFFF0 := by rw [joinBytes_getHigh_getLow]
  · exact joinBytes_getHigh_getLow v

/-- Settles O50: the pop reads the two bytes where the push has stored them. -/
theorem pushThenPopMovesThePair : Obligations.PushThenPopMovesThePair := by
  intro i j src dst s hpushForm hpopForm hinv hram1 hram2
  obtain ⟨u, hpush, husp, hucycles, hhigh, hlow, -, -, -, -, -, -, -, -, -, -, -, hctl⟩ :=
    pushStoresHighThenLow i src s hpushForm hinv (undecodedForWrite_of_isRam hram1) (undecodedForWrite_of_isRam hram2)
  have hnext : u.sp + 1 = s.sp - 1 := by bv_omega
  have hdec1 : undecodedForRead u.sp = false := husp ▸ undecodedForRead_of_isRam hram2
  have hdec2 : undecodedForRead (u.sp + 1) = false := hnext ▸ undecodedForRead_of_isRam hram1
  obtain ⟨lo, hi, t, hlo, hhi, hpop, hpair, -, htsp, htcycles, -⟩ := popLoadsLowThenHigh j dst u hpopForm hdec1 hdec2
  rw [husp, hlow hram2] at hlo
  rw [hnext, hhigh hram1] at hhi
  cases hlo
  cases hhi
  refine ⟨u, t, hpush, hpop, ?_, hpair.trans (popped_bytes dst _), ?_⟩
  · rw [htsp, husp, BitVec.sub_add_cancel]
  · rw [htcycles, hucycles, hctl.params]

end Sys2Proof.Machine
end

section
/-! Increment and decrement (spec/43_incdec): what a write of a byte register and of all four flags leaves behind it, the
write of a pair, and the low nibble of a result as a remainder. -/

namespace Sys2Proof.Machine

/-! ### Byte registers -/

theorem sameMemory_resetFlags (s : State) (fs : List Flag) : SameMemory s (s.resetFlags fs) :=
  sameMemory_of_fields rfl rfl rfl rfl rfl rfl rfl rfl

/-- The end of `INC r` and `DEC r` (R130, R131): a write of a byte register and of all four flags, with its cost. The one
register, F and the count change. -/
theorem returnCost_writeReg8_resetFlags (s : State) (r : Reg8) (v : Byte) (fs : List Flag) (n : Nat) :
    ∃ t, returnCost n ((s.writeReg8 r v).resetFlags fs) = .next t ∧ t.readReg8 r = v ∧ t.cycles = s.cycles + n ∧
      (∀ g, t.flag g = decide (g ∈ fs)) ∧ t.readF &&& 0x0F = 0 ∧ (∀ q, q ≠ r → t.readReg8 q = s.readReg8 q) ∧
      t.sp = s.sp ∧ t.pc = s.pc ∧ SameMemory s t ∧ SameControl s t := by
  obtain ⟨hreg, hcycles, hothers, -, hsp, hpc, hmem, hctl⟩ := writeReg8_addCycles_effect s r v n
  refine ⟨((s.writeReg8 r v).addCycles n).resetFlags fs, rfl, ?_, hcycles,
    State.flag_resetFlags _ fs, ?_, fun q hq => ?_, hsp, hpc, hmem.trans (sameMemory_resetFlags _ fs),
    hctl.trans ⟨rfl, rfl, rfl⟩⟩
  · rw [State.readReg8_resetFlags, hreg]
  · rw [State.readF_resetFlags, flagByte_and_low]
  · rw [State.readReg8_resetFlags, hothers q hq]

/-- Settles O51: the register and the flags of `INC r` are written, among them the carry as it was. -/
theorem incrementByteRegister : Obligations.IncrementByteRegister := by
  intro i r s hf
  obtain ⟨t, ht, hreg, hcycles, hflag, hlow, hframe⟩ := returnCost_writeReg8_resetFlags s r (s.readReg8 r + 1)
    (incFlags (s.readReg8 r + 1) (s.flag .c)) 1
  have hexec : exec i s = .next t := by
    rw [exec_eq_runForm, hf]
    exact ht
  refine ⟨t, hexec, hreg, hcycles, ?_, ?_, ?_, ?_, hlow, hframe⟩ <;> simp [hflag, mem_incFlags]

/-- Settles O52: the register and the flags of `DEC r` are written, among them the carry as it was. -/
theorem decrementByteRegister : Obligations.DecrementByteRegister := by
  intro i r s hf
  obtain ⟨t, ht, hreg, hcycles, hflag, hlow, hframe⟩ := returnCost_writeReg8_resetFlags s r (s.readReg8 r - 1)
    (decFlags (s.readReg8 r - 1) (s.flag .c)) 1
  have hexec : exec i s = .next t := by
    rw [exec_eq_runForm, hf]
    exact ht
  refine ⟨t, hexec, hreg, hcycles, ?_, ?_, ?_, ?_, hlow, hframe⟩ <;> simp [hflag, mem_decFlags]

/-! ### Pairs -/

/-- Settles O53: one write of the pair, with its cost. -/
theorem incrementAndDecrementPair : Obligations.IncrementAndDecrementPair := by
  intro i rr s hf
  have hexec : exec i s = returnCost 2
      (s.writePair rr (if i.form = .incPair rr then s.readPair rr + 1 else s.readPair rr - 1)) := by
    rcases hf with hf | hf <;> rw [exec_eq_runForm, hf] <;> simp [runForm, incPair, decPair]
  refine ⟨_, hexec, ?_, ?_, fun q hq => ?_, ?_, ?_, sameMemory_iff.2 (by simp), sameControl_iff.2 (by simp)⟩
  · rw [State.readPair_addCycles, State.readPair_writePair, if_pos rfl]
  · rw [State.addCycles_cycles, State.writePair_cycles]
  · rw [State.readPair_addCycles, State.readPair_writePair, if_neg hq]
  · rw [State.addCycles_af, State.writePair_af]
  · rw [State.addCycles_pc, State.writePair_pc]

/-! ### The half-carry flag -/

/-- The low nibble is the remainder by 16. -/
theorem toNat_and_lowNibble (v : Byte) : (v &&& 0x0F).toNat = v.toNat % 16 := by
  rw [BitVec.toNat_and]
  exact Nat.and_two_pow_sub_one_eq_mod v.toNat 4

/-- An increment leaves a zero low nibble where the addition of 1 carries out of it (R134). -/
theorem lowNibble_add_one_eq_zero_iff (x : Byte) : (x + 1) &&& 0x0F = 0 ↔ 0x0F < x.toNat % 16 + 1 := by
  rw [← BitVec.toNat_inj, toNat_and_lowNibble, BitVec.toNat_add]
  change (x.toNat + 1) % 256 % 16 = 0 ↔ _
  omega

/-- A decrement leaves a full low nibble where the subtraction of 1 borrows into it (R134). -/
theorem lowNibble_sub_one_eq_full_iff (x : Byte) : (x - 1) &&& 0x0F = 0x0F ↔ x.toNat % 16 < 1 := by
  rw [← BitVec.toNat_inj, toNat_and_lowNibble, BitVec.toNat_sub]
  change (256 - 1 + x.toNat) % 256 % 16 = 15 ↔ _
  omega

/-- Settles O54: the flag tells the low nibble of the result, which is where the operand's carries or borrows. -/
theorem halfCarryIsTheNibbleCarry : Obligations.HalfCarryIsTheNibbleCarry := by
  intro i r s t hexec
  constructor <;> intro hf
  · obtain ⟨u, hu, -, -, -, -, hh, -⟩ := incrementByteRegister i r s hf
    cases hexec.symm.trans hu
    exact hh.trans (lowNibble_add_one_eq_zero_iff _)
  · obtain ⟨u, hu, -, -, -, -, hh, -⟩ := decrementByteRegister i r s hf
    cases hexec.symm.trans hu
    exact hh.trans (lowNibble_sub_one_eq_full_iff _)

end Sys2Proof.Machine
end

section
/-! `NOP`, `STOP`, the undecoded opcodes and the program counter (spec/44_misc_control): what the instructions without an
operand do over a whole Step, and how far a completed Step moves `pc`. -/

namespace Sys2Proof.Machine

/-! ### NOP and the two traps -/

/-- Past the opcode fetch a handler finds the opcode byte at the `pc` before it, the wrap at 0xFFFF included (R90, R94). -/
@[simp] theorem State.opcodeAddress_advancePc (s : State) : s.advancePc.opcodeAddress = s.pc :=
  BitVec.add_sub_cancel s.pc 1

/-- A Step at an opcode without an immediate whose handler raises has fetched the opcode byte and done nothing else
(60_exceptions R155, R156). -/
theorem raises_of_entry_op {s : State} {op : Byte} {i : Instr} {c : Cause} (hs : s.enabled)
    (hop : memRead s s.pc = some op) (he : opcodeEntry op = some (.op i))
    (hexec : exec i s.advancePc = raise c s.advancePc) :
    Raises s c { s with pc := s.pc + 1, status := .faulted c } :=
  ⟨(step_of_entry_op hs hop he).trans hexec, rfl⟩

/-- Settles O55: the handler only charges its cycle, and the Step runs it after the opcode fetch. -/
theorem nopOnlyCountsACycle : Obligations.NopOnlyCountsACycle :=
  ⟨fun _ => rfl, fun _ hs hop => step_of_entry_op (i := .nop) hs hop rfl⟩

/-- Settles O56: the handler raises whatever the state is, and the Step runs it after the opcode fetch. -/
theorem stopTraps : Obligations.StopTraps := by
  refine ⟨fun s => rfl, fun s hs hop => raises_of_entry_op (i := .stop) hs hop rfl ?_⟩
  have hexec : exec .stop s.advancePc = raise (.unimplemented 0x10 s.advancePc.opcodeAddress) s.advancePc := rfl
  rw [hexec, State.opcodeAddress_advancePc]

/-- An undecoded instruction raises with its own byte (R142, R151). -/
theorem exec_undecoded {i : Instr} {op : Byte} (hf : i.form = .undecoded op) (s : State) :
    exec i s = raise (.illegalOpcode op s.opcodeAddress) s := by
  rw [exec_eq_runForm, hf]
  rfl

/-- Settles O57: a byte of R79 selects an undecoded instruction of that byte, which raises. -/
theorem undecodedOpcodesRaiseIllegalOpcode : Obligations.UndecodedOpcodesRaiseIllegalOpcode := by
  refine ⟨fun i op s hf => exec_undecoded hf s, fun op s hs hundecoded hop => ?_⟩
  obtain ⟨i, hread, hf⟩ := (isUndecodedOpcode_iff op).1 hundecoded
  cases hread with
  | op he =>
    refine raises_of_entry_op hs hop he ?_
    rw [exec_undecoded hf, State.opcodeAddress_advancePc]

/-! ### How far `pc` moves -/

/-- `Q` holds of `t`, unless `t` has faulted. -/
def WhenRunning (Q : State → Prop) (t : State) : Prop := t.status = .running → Q t

section
variable {Q : State → Prop} {s : State}

theorem sat_whenRunning_returnCost {n : Nat} (h : Q (s.addCycles n)) : Sat (WhenRunning Q) (returnCost n s) :=
  sat_returnCost.2 fun _ => h

theorem whenRunning_takeFault (c : Cause) : WhenRunning Q (takeFault c s) := fun h => by cases h

theorem sat_whenRunning_withRead {a : Word} {k : Byte → Out} (h : ∀ v, Sat (WhenRunning Q) (k v)) :
    Sat (WhenRunning Q) (withRead s a k) :=
  sat_withRead.2 ⟨fun v _ => h v, fun _ => whenRunning_takeFault _⟩

theorem sat_whenRunning_withWrite {a : Word} {v : Byte} {k : State → Out}
    (h : ∀ u, memWrite s a v = some u → Sat (WhenRunning Q) (k u)) : Sat (WhenRunning Q) (withWrite s a v k) :=
  sat_withWrite.2 ⟨h, fun _ => whenRunning_takeFault _⟩

end

/-- `pc` has moved past `n` bytes, modulo 2^16 (10_state R16). -/
def PcPast (n : Nat) (s t : State) : Prop := t.pc = s.pc + BitVec.ofNat 16 n

theorem pcPast_zero_iff {s t : State} : PcPast 0 s t ↔ t.pc = s.pc := by
  rw [PcPast, BitVec.add_zero]

/-- An instruction that completes leaves `pc` past its immediate bytes: nothing but their fetch moves it (R16, R146). -/
theorem exec_pcPast (i : Instr) (s : State) :
    Sat (WhenRunning (PcPast i.form.immediateBytes.length s)) (exec i s) := by
  rw [exec_eq_runForm]
  cases i.form with
  | stop | undecoded => exact sat_raise.2 (whenRunning_takeFault _)
  | nop | ldRegReg | incReg | decReg | incPair | decPair =>
    exact sat_whenRunning_returnCost (pcPast_zero_iff.2 (by simp))
  | ldRegAtHL | ldAAtHLInc | ldAAtHLDec =>
    exact sat_whenRunning_withRead fun v => sat_whenRunning_returnCost (pcPast_zero_iff.2 (by simp))
  | ldAtHLReg | ldAtHLIncA | ldAtHLDecA =>
    exact sat_whenRunning_withWrite fun u hu =>
      sat_whenRunning_returnCost (pcPast_zero_iff.2 (by simp [memWrite_pc hu]))
  | pop =>
    exact sat_whenRunning_withRead fun lo => sat_whenRunning_withRead fun hi =>
      sat_whenRunning_returnCost (pcPast_zero_iff.2 (by simp))
  | push =>
    exact sat_whenRunning_withWrite fun u hu => sat_whenRunning_withWrite fun w hw =>
      sat_whenRunning_returnCost (pcPast_zero_iff.2 (by simp [memWrite_pc hw, memWrite_pc hu]))
  | ldRegImm => exact sat_whenRunning_returnCost (State.writeReg8_pc _ _ _)
  | ldAtHLImm => exact sat_whenRunning_withWrite fun u hu => sat_whenRunning_returnCost (memWrite_pc hu)
  | ldPairImm =>
    refine sat_whenRunning_returnCost ?_
    rw [PcPast, State.addCycles_pc, State.loadHighHalf_pc, State.loadLowHalf_pc, BitVec.add_assoc]
    rfl

/-- Settles O19: the opcode fetch moves `pc` by one, and the instruction moves it past its immediate bytes. -/
theorem completedStepAdvancesPcByLength : Obligations.CompletedStepAdvancesPcByLength := by
  intro s t h
  obtain ⟨i, hbytes, hexec⟩ := exec_of_completes h
  refine ⟨i, hbytes, ?_⟩
  have hpc : t.pc = s.pc + 1 + BitVec.ofNat 16 i.form.immediateBytes.length :=
    exec_pcPast i s.advancePc t hexec h.2
  have hlength : i.length = 1 + i.form.immediateBytes.length := Nat.add_comm _ _
  rw [hpc, hlength, BitVec.ofNat_add, ← BitVec.add_assoc]
  rfl

end Sys2Proof.Machine
end

section
/-! The faults (spec/60_exceptions): the addresses that raise, the fault of the opcode fetch, what each cause records, and
that no Step follows a fault. -/

namespace Sys2Proof.Machine

/-! ### Where an access raises -/

/-- Settles O33: the addresses that do not decode, range by range. -/
theorem undecodedAddressesRaise : Obligations.UndecodedAddressesRaise := by
  refine fun s a v => ⟨(memRead_none_iff_undecoded s a).trans ?_, (memWrite_none_iff_undecoded s a v).trans ?_⟩
  · simp [undecodedForRead]
  · simp [undecodedForWrite, or_assoc]

theorem undecodedForRead_of_memRead {s : State} {a : Word} {v : Byte} (h : memRead s a = some v) :
    undecodedForRead a = false := by
  rw [← Bool.not_eq_true, ← memRead_none_iff_undecoded s, h]
  exact Option.some_ne_none v

theorem undecodedForWrite_of_memWrite {s t : State} {a : Word} {v : Byte} (h : memWrite s a v = some t) :
    undecodedForWrite a = false := by
  rw [← Bool.not_eq_true, ← memWrite_none_iff_undecoded s a v, h]
  exact Option.some_ne_none t

/-- Settles O9: the fetch raises before `pc` is advanced. -/
theorem opcodeFetchFaultLeavesPc : Obligations.OpcodeFetchFaultLeavesPc := by
  intro s hs hund
  have hnone : memRead s s.pc = none := (memRead_none_iff_undecoded s _).2 hund
  have hfetch : fetchInstr s = .raised (takeFault (.undecodedAddress s.pc .read) s) := by simp only [fetchInstr, hnone]
  refine ⟨?_, rfl⟩
  rw [step_enabled hs, hfetch]
  rfl

/-! ### After a fault -/

/-- Settles O15: the first Step asked for is not enabled, so the others are not asked for. -/
theorem faultsAreFatal : Obligations.FaultsAreFatal := by
  intro s t c k ⟨_, hfaulted⟩
  rw [runSteps, stepIsNotEnabledWhenFaultedOrHalted.1 t c hfaulted]

/-! ### What a cause records -/

/-- `Q` holds of `t` and of the cause that `t` has faulted with, if it has faulted. -/
def WhenFaulted (Q : Cause → State → Prop) (t : State) : Prop := ∀ c, t.status = .faulted c → Q c t

theorem memWrite_status {s t : State} {a : Word} {v : Byte} (h : memWrite s a v = some t) : t.status = s.status :=
  (memWrite_sameControl h).status

section
variable {Q : Cause → State → Prop} {s : State} {a : Word}

theorem whenFaulted_takeFault {c : Cause} (h : Q c (takeFault c s)) : WhenFaulted Q (takeFault c s) := by
  rintro _ ⟨⟩
  exact h

theorem sat_whenFaulted_raise {c : Cause} (h : Q c (takeFault c s)) : Sat (WhenFaulted Q) (raise c s) :=
  sat_raise.2 (whenFaulted_takeFault h)

/-- An instruction that comes to its end has not faulted. -/
theorem sat_whenFaulted_returnCost {n : Nat} (h : s.status = .running) : Sat (WhenFaulted Q) (returnCost n s) :=
  sat_returnCost.2 fun _ hc => by cases h.symm.trans hc

/-- A read faults with its own address, if this does not decode, and else what follows it may fault. -/
theorem sat_whenFaulted_withRead {k : Byte → Out}
    (hund : undecodedForRead a = true →
      Q (.undecodedAddress a .read) (takeFault (.undecodedAddress a .read) s))
    (hdec : undecodedForRead a = false → ∀ v, Sat (WhenFaulted Q) (k v)) :
    Sat (WhenFaulted Q) (withRead s a k) :=
  sat_withRead.2 ⟨fun v hv => hdec (undecodedForRead_of_memRead hv) v,
    fun hnone => whenFaulted_takeFault (hund ((memRead_none_iff_undecoded s a).1 hnone))⟩

/-- A write faults with its own address, if this does not decode, and else what follows it may fault. -/
theorem sat_whenFaulted_withWrite {v : Byte} {k : State → Out}
    (hund : undecodedForWrite a = true →
      Q (.undecodedAddress a .write) (takeFault (.undecodedAddress a .write) s))
    (hdec : undecodedForWrite a = false → ∀ u, memWrite s a v = some u → Sat (WhenFaulted Q) (k u)) :
    Sat (WhenFaulted Q) (withWrite s a v k) :=
  sat_withWrite.2 ⟨fun u hu => hdec (undecodedForWrite_of_memWrite hu) u hu,
    fun hnone => whenFaulted_takeFault (hund ((memWrite_none_iff_undecoded s a v).1 hnone))⟩

end

/-- Past its opcode byte, an instruction of this form at `s.pc` reads at `a`, and no read before that one is of an undecoded
address (R157). -/
def ReadFaultsAt (s : State) (a : Word) : Form → Prop
  | .ldRegImm _ _ | .ldAtHLImm _ => a = s.pc + 1
  | .ldPairImm _ _ => a = s.pc + 1 ∨ undecodedForRead (s.pc + 1) = false ∧ a = s.pc + 2
  | .ldRegAtHL _ | .ldAAtHLInc | .ldAAtHLDec => a = s.hl
  | .pop _ => a = s.sp ∨ undecodedForRead s.sp = false ∧ a = s.sp + 1
  | _ => False

/-- An instruction of this form writes at `a`, and no write before that one is of an undecoded address (R157). -/
def WriteFaultsAt (s : State) (a : Word) : Form → Prop
  | .ldAtHLReg _ | .ldAtHLImm _ | .ldAtHLIncA | .ldAtHLDecA => a = s.hl
  | .push _ => a = s.sp - 1 ∨ undecodedForWrite (s.sp - 1) = false ∧ a = s.sp - 2
  | _ => False

/-- What a cause records of the instruction of form `f` at `s.pc` that has faulted in the state `t` (R151 to R153). -/
def Records (f : Form) (s : State) : Cause → State → Prop
  | .illegalOpcode op addr, t => f = .undecoded op ∧ addr = s.pc ∧ t.pc = s.pc + 1
  | .unimplemented op addr, t => f = .stop ∧ op = 0x10 ∧ addr = s.pc ∧ t.pc = s.pc + 1
  | .undecodedAddress a .read, _ => undecodedForRead a = true ∧ ReadFaultsAt s a f
  | .undecodedAddress a .write, _ => undecodedForWrite a = true ∧ WriteFaultsAt s a f

/-- A handler that faults records its opcode or the first address it has accessed that does not decode. -/
theorem exec_records (i : Instr) {s : State} (hs : s.status = .running) :
    Sat (WhenFaulted (Records i.form s)) (exec i s.advancePc) := by
  rw [exec_eq_runForm]
  generalize i.form = f
  cases f with
  | nop | ldRegReg | ldRegImm | ldPairImm | incReg | decReg | incPair | decPair =>
    exact sat_whenFaulted_returnCost (by simpa using hs)
  | stop => exact sat_whenFaulted_raise ⟨rfl, rfl, s.opcodeAddress_advancePc, rfl⟩
  | undecoded op => exact sat_whenFaulted_raise ⟨rfl, s.opcodeAddress_advancePc, rfl⟩
  | ldRegAtHL | ldAAtHLInc | ldAAtHLDec =>
    exact sat_whenFaulted_withRead (fun hund => ⟨hund, rfl⟩) fun _ v =>
      sat_whenFaulted_returnCost (by simpa using hs)
  | ldAtHLReg | ldAtHLImm | ldAtHLIncA | ldAtHLDecA =>
    exact sat_whenFaulted_withWrite (fun hund => ⟨hund, rfl⟩) fun _ u hu =>
      sat_whenFaulted_returnCost (by simpa [memWrite_status hu] using hs)
  | pop =>
    exact sat_whenFaulted_withRead (fun hund => ⟨hund, .inl rfl⟩) fun hdec lo =>
      sat_whenFaulted_withRead (fun hund => ⟨hund, .inr ⟨hdec, rfl⟩⟩) fun _ hi =>
        sat_whenFaulted_returnCost (by simpa using hs)
  | push =>
    refine sat_whenFaulted_withWrite (fun hund => ⟨hund, .inl rfl⟩) fun hdec u hu =>
      sat_whenFaulted_withWrite (fun hund => ⟨hund, .inr ⟨hdec, ?_⟩⟩) fun _ w hw =>
        sat_whenFaulted_returnCost (by simpa [memWrite_status hw, memWrite_status hu] using hs)
    obtain ⟨hsp, -⟩ := memWrite_decSp_registers hu
    rw [State.decSp_sp, hsp, sub_one_sub_one, State.advancePc_sp]

/-- The bytes of an instruction begin with its opcode. -/
theorem memRead_opcode_of_readBytes {s : State} {i : Instr} (h : readBytes s s.pc i.length = some (encode i)) :
    memRead s s.pc = some i.form.opcode :=
  (readBytes_eq_cons h).1

theorem opcode_of_readAs {op : Byte} {imm : List Byte} {i : Instr} (h : ReadAs (op :: imm) i) : i.form.opcode = op :=
  (List.cons.inj h.encode_eq).1

/-- An opcode with immediates is that of an instruction which reads the byte after it. -/
theorem exists_readFaultsAt_first {op : Byte} {e : Entry} (he : opcodeEntry op = some e) (himm : e.immediates ≠ 0)
    (s : State) : ∃ i : Instr, i.form.opcode = op ∧ ReadFaultsAt s (s.pc + 1) i.form := by
  cases e with
  | op i => exact absurd rfl himm
  | opD8 dst =>
    refine ⟨instrD8 dst 0, opcode_of_readAs (.d8 he 0), ?_⟩
    cases dst with
    | atHL => rfl
    | reg r => cases r <;> rfl
  | opD16 dst =>
    refine ⟨instrD16 dst 0, opcode_of_readAs (.d16 he 0), ?_⟩
    cases dst <;> exact .inl rfl

/-- An opcode with a word immediate is that of an instruction which reads the two bytes after it. -/
theorem exists_readFaultsAt_second {op : Byte} {dst : Pair} (he : opcodeEntry op = some (.opD16 dst)) {s : State}
    (hdec : undecodedForRead (s.pc + 1) = false) :
    ∃ i : Instr, i.form.opcode = op ∧ ReadFaultsAt s (s.pc + 2) i.form := by
  refine ⟨instrD16 dst 0, opcode_of_readAs (.d16 he 0), ?_⟩
  cases dst <;> exact .inr ⟨hdec, rfl⟩

/-- Settles O14: the handler of the instruction at `pc` has faulted, or the fetch of its first, second or third byte. -/
theorem faultCausesAndWhatTheyRecord : Obligations.FaultCausesAndWhatTheyRecord := by
  rintro s t c ⟨hstep, hfaulted⟩
  obtain ⟨hs, -⟩ := enabled_of_step hstep
  rcases step_cases hstep with ⟨i, hbytes, hexec⟩ | ⟨hop, rfl⟩ | ⟨op, e, hop, he, himm, hnone, rfl⟩ |
    ⟨op, dst, lo, hop, he, hlo, hnone, rfl⟩
  · have hrec := exec_records i hs t hexec c hfaulted
    have hop := memRead_opcode_of_readBytes hbytes
    match c, hrec with
    | .illegalOpcode op addr, ⟨hf, haddr, hpc⟩ =>
      have hwf := instr_wf i
      rw [Instr.wf, hf] at hwf
      rw [hf] at hop
      exact ⟨haddr, hop, hwf, hpc⟩
    | .unimplemented op addr, ⟨hf, hcode, haddr, hpc⟩ =>
      rw [hf] at hop
      exact ⟨hcode, haddr, hop, hpc⟩
    | .undecodedAddress a .read, ⟨hund, hat⟩ => exact ⟨hund, .inr ⟨i, hop, hat⟩⟩
    | .undecodedAddress a .write, ⟨hund, hat⟩ => exact ⟨hund, i, hbytes, hat⟩
  · cases hfaulted
    exact ⟨(memRead_none_iff_undecoded s _).1 hop, .inl rfl⟩
  · cases hfaulted
    obtain ⟨i, hcode, hat⟩ := exists_readFaultsAt_first he himm s
    exact ⟨(memRead_none_iff_undecoded s _).1 hnone, .inr ⟨i, hcode ▸ hop, hat⟩⟩
  · cases hfaulted
    obtain ⟨i, hcode, hat⟩ := exists_readFaultsAt_second he (undecodedForRead_of_memRead hlo)
    rw [add_one_add_one] at hnone ⊢
    exact ⟨(memRead_none_iff_undecoded s _).1 hnone, .inr ⟨i, hcode ▸ hop, hat⟩⟩

end Sys2Proof.Machine
end

section
/-! Reset and the cycle counter (spec/70_reset_and_hazards): the reconstruction of the CPU over the same MMU, and what a Step
adds to the count when it completes and when it raises. -/

namespace Sys2Proof.Machine

/-! ### Reconstruction -/

/-- The memory depends on no field of the CPU, so a fresh CPU sees that of the old one (R171). -/
theorem sameMemory_reconstructCpu (s : State) : SameMemory s s.reconstructCpu :=
  sameMemory_of_fields rfl rfl rfl rfl rfl rfl rfl rfl

/-- Settles O59: the reconstruction writes the reset values into the CPU's fields and into no other. -/
theorem reconstructingTheCpuKeepsTheMmu : Obligations.ReconstructingTheCpuKeepsTheMmu := fun s =>
  ⟨⟨rfl, rfl⟩, sameMemory_reconstructCpu s, rfl, rfl, rfl, rfl, rfl, rfl, rfl, rfl⟩

/-! ### What a Step adds to the count -/

/-- `t` has the count of `s`, whatever the cause that `t` has faulted with. -/
def Uncharged (s : State) (_ : Cause) (t : State) : Prop := t.cycles = s.cycles

/-- An instruction that faults adds nothing to the count: every handler charges at its end alone (R180, D17). -/
theorem exec_uncharged_of_faulted (i : Instr) {s : State} (hs : s.status = .running) :
    Sat (WhenFaulted (Uncharged s)) (exec i s) := by
  rw [exec_eq_runForm]
  cases i.form with
  | stop | undecoded => exact sat_whenFaulted_raise rfl
  | nop | ldRegReg | ldRegImm | ldPairImm | incReg | decReg | incPair | decPair =>
    exact sat_whenFaulted_returnCost (by simpa using hs)
  | ldRegAtHL | ldAAtHLInc | ldAAtHLDec =>
    exact sat_whenFaulted_withRead (fun _ => rfl) fun _ v => sat_whenFaulted_returnCost (by simpa using hs)
  | ldAtHLReg | ldAtHLImm | ldAtHLIncA | ldAtHLDecA =>
    exact sat_whenFaulted_withWrite (fun _ => rfl) fun _ u hu =>
      sat_whenFaulted_returnCost (by simpa [memWrite_status hu] using hs)
  | pop =>
    exact sat_whenFaulted_withRead (fun _ => rfl) fun _ lo =>
      sat_whenFaulted_withRead (fun _ => rfl) fun _ hi => sat_whenFaulted_returnCost (by simpa using hs)
  | push =>
    exact sat_whenFaulted_withWrite (fun _ => rfl) fun _ u hu =>
      sat_whenFaulted_withWrite (fun _ => (memWrite_decSp_cycles hu :)) fun _ w hw =>
        sat_whenFaulted_returnCost (by simpa [memWrite_status hw, memWrite_status hu] using hs)

/-- Settles O20: a completed Step adds what its instruction charges; a Step that raises has come to no charge, in the
instruction or in the fetch of its bytes. -/
theorem stepChargesTheTableCost : Obligations.StepChargesTheTableCost := by
  refine ⟨fun s t h => ?_, fun s t c ⟨hstep, hfaulted⟩ => ?_⟩
  · obtain ⟨i, hbytes, hexec⟩ := exec_of_completes h
    obtain ⟨n, hcost, hcycles⟩ := exec_charges i s.advancePc t hexec h.2
    exact ⟨i, n, hbytes, hcost, hcycles⟩
  · obtain ⟨hrunning, -⟩ := enabled_of_step hstep
    have hcycles : WhenFaulted (Uncharged s) t :=
      step_induct hstep (fun i => exec_uncharged_of_faulted i (s := s.advancePc) hrunning) fun _ =>
        ⟨whenFaulted_takeFault rfl, whenFaulted_takeFault rfl,
          fun dst lo => whenFaulted_takeFault (State.loadLowHalf_cycles _ dst lo)⟩
    exact hcycles c hfaulted

end Sys2Proof.Machine
end
